-- ==== Sys2Proof/Word.lean ====
section
/-! DEFINITION. The widths STEC's cells, operands and command words have (spec rules R8, R20, R70). -/

namespace Sys2Proof

/-- An 8-bit cell, bus or operand (R20, R30, R73, R75). -/
abbrev Byte := BitVec 8

/-- A value of `CW` = 16 bits: MillisCounter, SYNC_DELAY's offset, the wait target (R6, R20, R74). -/
abbrev Half := BitVec 16

/-- A 24-bit command word, bit 23 the most significant (R70). -/
abbrev CmdWord := BitVec 24

end Sys2Proof
end

