-- ==== Sys2Proof/Config.lean ====
section
/-! DEFINITION. The build parameters of rule R6, when they are legal (R6, R7), the example configuration of the
spec, and the two free values of the model. `CW` = 16 and `NPORTS` = 3 are fixed by R6 and stand in the types. -/

namespace Sys2Proof

/-- The two variants, chosen when the block is built (R2). -/
inductive Variant where
  /-- Two watched inputs; the AdjustableParameter is the bounded integer `Param`. -/
  | twoButton
  /-- One watched input; the AdjustableParameter is the direction flag `Dir`. -/
  | singleSwitch
deriving DecidableEq, Repr

/-- The parameters of rule R6 a build fixes. -/
structure Config where
  /-- VARIANT -/
  variant : Variant
  /-- PERIOD, the modulus of MillisCounter -/
  period : Nat
  /-- BIT_A, mask of the increment button -/
  bitA : Byte
  /-- BIT_B, mask of the decrement button -/
  bitB : Byte
  /-- BIT_S, mask of the switch -/
  bitS : Byte
  /-- PARAM_MAX, upper clamp of `Param` -/
  paramMax : Byte
  /-- PARAM_INIT, reset value of `Param` -/
  paramInit : Byte
  /-- F_CLK in Hz, informative: no rule of a step reads it (R6, R216) -/
  fClk : Nat
deriving DecidableEq, Repr

/-- "A one-hot mask is a byte with exactly one bit set" (R9). -/
abbrev OneHot (b : Byte) : Prop := b ≠ 0 ∧ b &&& (b - 1) = 0

/-- The constraints of R6 and R7 on the parameters the variant uses. -/
abbrev Config.Legal (c : Config) : Prop :=
  2 ≤ c.period ∧ c.period ≤ 65535 ∧
  (c.variant = .twoButton →
    OneHot c.bitA ∧ OneHot c.bitB ∧ c.bitB ≠ c.bitA ∧
    1 ≤ c.paramMax.toNat ∧ c.paramMax.toNat ≤ 99 ∧ c.paramMax.toNat < c.period ∧
    1 ≤ c.paramInit.toNat ∧ c.paramInit.toNat ≤ c.paramMax.toNat) ∧
  (c.variant = .singleSwitch → OneHot c.bitS)

/-- PRESCALE (R6), informative. -/
def Config.prescale : Nat := 256

/-- COMPARE = F_CLK / 256 / 1000 (R6, R215), informative. DEDUCED: the divisions truncate (log entry 9). -/
def Config.compare (c : Config) : Nat := c.fClk / Config.prescale / 1000

/-- The example configuration CFG-EX of R6. DESIGN CHOICE: its F_CLK (log entry 9). -/
def Config.example (v : Variant) : Config :=
  { variant := v, period := 1000, bitA := 0x01, bitB := 0x02, bitS := 0x01,
    paramMax := 99, paramInit := 50, fClk := 8192000 }

/-- FREE VALUE (log entry 8): what a 16-bit MillisCounter holds when `c + 1` does not fit in it. No body: nothing
constrains it. Only a counter at 65535, which no run reaches, meets it. -/
opaque Config.freeCounter : Nat → Half

/-- FREE VALUE (log entry 8): the two bytes of a Refresh whose `Param` is above 99, where `enc` "is not defined"
(R140, U15). No body: nothing constrains it. No run reaches it. -/
opaque Config.freeDigits : Nat → Byte × Byte

end Sys2Proof
end

