-- ==== Sys2Proof/Syntax.lean ====
section
/-! DEFINITION. The seven operations of STEC (rules R11, R15, R77), one constructor per row of the opcode table. -/

namespace Sys2Proof

/-- A decoded command word. Operands are the unsigned fields of R72 to R76. -/
inductive Instr where
  /-- NOW, `now()` (R105) -/
  | now
  /-- GET_EVENT, `get_event()` (R120) -/
  | getEvent
  /-- SET_EVENT imm8, `set_event(byte)` (R123) -/
  | setEvent (imm8 : Byte)
  /-- POLL, `poll()` (R130) -/
  | poll
  /-- SYNC_DELAY offset, `sync_delay(offset)` (R160) -/
  | syncDelay (offset : Half)
  /-- WRITE port, mask, value, `write(mask, value)` on one port (R180) -/
  | write (port : BitVec 2) (mask value : Byte)
  /-- TICK, `tick()` (R100) -/
  | tick
deriving DecidableEq, Repr

end Sys2Proof
end

