-- ==== Sys2Proof/WellFormed.lean ====
section
/-! DEFINITION. Which terms of `Instr` are operations of STEC. The widths of the operands stand in the types; the
one check left is WRITE's port index, since index 3 names no port (rules R51, R80 item 3, R184). An offset at or
above PERIOD is a legal encoding (R74) and is refused when it is performed (R165). -/

namespace Sys2Proof

/-- The check, operation by operation. -/
def Instr.wellFormed (i : Instr) : Bool :=
  match i with
  | .now => true
  | .getEvent => true
  | .setEvent _ => true
  | .poll => true
  | .syncDelay _ => true
  | .write port _ _ => port != 3
  | .tick => true

/-- The well-formed operations. -/
abbrev Instr.WellFormed (i : Instr) : Prop := i.wellFormed = true

end Sys2Proof
end

