-- ==== Sys2Proof/Decode.lean ====
section
/-! DEFINITION. The command word: formats, opcode map, decoder and encoder (spec/30_encoding.md, rules R70 to R84).
The decoder is total on all 2^24 words and rejects by name. -/

namespace Sys2Proof

/-- Why a word selects no operation, before the port of arrival is looked at (R80 items 1 to 3, R82). -/
inductive Reject where
  /-- Reserved opcode, or a must-be-zero field that is not zero (R80 items 1, 2). -/
  | reservedEncoding
  /-- WRITE with port = 3 (R80 item 3, R184). -/
  | noSuchPort
deriving DecidableEq, Repr

/-- A row of the opcode map R77: a word `w` selects the row when `w AND mask = value`. -/
structure OpRow where
  /-- the row's `match` -/
  value : CmdWord
  /-- the row's `mask` -/
  mask : CmdWord
deriving DecidableEq, Repr

/-- The row's test of R77. -/
def OpRow.selects (r : OpRow) (w : CmdWord) : Bool := w &&& r.mask == r.value

/-- NOW's row of R77. -/
def rowNow : OpRow := { value := 0x100000, mask := 0xFFFFFF }
/-- GET_EVENT's row of R77. -/
def rowGetEvent : OpRow := { value := 0x200000, mask := 0xFFFFFF }
/-- SET_EVENT's row of R77. -/
def rowSetEvent : OpRow := { value := 0x300000, mask := 0xFFFF00 }
/-- POLL's row of R77. -/
def rowPoll : OpRow := { value := 0x400000, mask := 0xFFFFFF }
/-- SYNC_DELAY's row of R77. -/
def rowSyncDelay : OpRow := { value := 0x500000, mask := 0xFF0000 }
/-- WRITE's row of R77. -/
def rowWrite : OpRow := { value := 0x600000, mask := 0xFC0000 }
/-- TICK's row of R77. -/
def rowTick : OpRow := { value := 0x700000, mask := 0xFFFFFF }

/-- The opcode map of R77, all its assigned rows in order. -/
def opcodeMap : List OpRow :=
  [rowNow, rowGetEvent, rowSetEvent, rowPoll, rowSyncDelay, rowWrite, rowTick]

/-- `op = w[23:20]` (R71). -/
def opField (w : CmdWord) : BitVec 4 := w.extractLsb' 20 4

/-- `port = w[17:16]` of format W (R75). -/
def portField (w : CmdWord) : BitVec 2 := w.extractLsb' 16 2

/-- `mask = w[15:8]` of format W (R75). -/
def maskField (w : CmdWord) : Byte := w.extractLsb' 8 8

/-- `imm8 = w[7:0]` of format B (R73) and `value = w[7:0]` of format W (R75). -/
def lowByte (w : CmdWord) : Byte := w.extractLsb' 0 8

/-- `offset = w[15:0]` of format D (R74). -/
def offsetField (w : CmdWord) : Half := w.extractLsb' 0 16

/-- "check `w AND mask = match` for that row, and refuse if it fails" (R82). -/
def checkRow (r : OpRow) (w : CmdWord) (i : Instr) : Except Reject Instr :=
  if r.selects w then .ok i else .error .reservedEncoding

/-- R82's "then check WRITE's `port != 3`". -/
def checkPort (i : Instr) : Except Reject Instr :=
  match i with
  | .write port mask value => if port = 3 then .error .noSuchPort else .ok (.write port mask value)
  | i => .ok i

/-- The decoder of R82: the row of `op`, its mask test, then WRITE's port. The last check of R82, the port of
arrival, is made by the operations' meanings (Machine/), which know the context. -/
def decode (w : CmdWord) : Except Reject Instr :=
  match (opField w).toNat with
  | 1 => checkRow rowNow w .now
  | 2 => checkRow rowGetEvent w .getEvent
  | 3 => checkRow rowSetEvent w (.setEvent (lowByte w))
  | 4 => checkRow rowPoll w .poll
  | 5 => checkRow rowSyncDelay w (.syncDelay (offsetField w))
  | 6 => (checkRow rowWrite w (.write (portField w) (maskField w) (lowByte w))).bind checkPort
  | 7 => checkRow rowTick w .tick
  | _ => .error .reservedEncoding

/-- The operation `decode` reads from a word numbered as the opcode table numbers it: bit 0 is the least
significant of the one 24-bit command word (R70); bits above `nbits` are 0. A number that does not fit in the
24 bits of a word is no word. -/
def decodeTableWord (nbits w : Nat) : Option Instr :=
  if w % 2 ^ nbits < 2 ^ 24 then (decode (BitVec.ofNat 24 (w % 2 ^ nbits))).toOption else none

/-- `zext_24(v)` (R8). -/
abbrev zext24 {n : Nat} (v : BitVec n) : CmdWord := v.setWidth 24

/-- The word of an operation, from the formats of R71 to R75: the opcode in bits 23..20, every operand in its place,
zeros elsewhere. -/
def encode (i : Instr) : CmdWord :=
  match i with
  | .now => 0x1 <<< 20
  | .getEvent => 0x2 <<< 20
  | .setEvent imm8 => 0x3 <<< 20 ||| zext24 imm8
  | .poll => 0x4 <<< 20
  | .syncDelay offset => 0x5 <<< 20 ||| zext24 offset
  | .write port mask value => 0x6 <<< 20 ||| zext24 port <<< 16 ||| zext24 mask <<< 8 ||| zext24 value
  | .tick => 0x7 <<< 20

/-- The word of TICK, the only word the interrupt port ever presents (R70, R100). -/
def tickWord : CmdWord := encode .tick

/-- DELAY_OFF, that is SYNC_DELAY 0 (R84). -/
def pseudoDelayOff : Instr := .syncDelay 0

/-- SETB port, bits, that is WRITE port, bits, bits (R84). -/
def pseudoSetB (port : BitVec 2) (bits : Byte) : Instr := .write port bits bits

/-- CLRB port, bits, that is WRITE port, bits, 0x00 (R84). -/
def pseudoClrB (port : BitVec 2) (bits : Byte) : Instr := .write port bits 0

/-- OUT port, byte, that is WRITE port, 0xFF, byte (R84). -/
def pseudoOut (port : BitVec 2) (byte : Byte) : Instr := .write port 0xFF byte

/-- One operation in the assembler syntax of R83, numerals in decimal. -/
def asmText (i : Instr) : String :=
  match i with
  | .now => "NOW"
  | .getEvent => "GET_EVENT"
  | .setEvent imm8 => "SET_EVENT " ++ toString imm8.toNat
  | .poll => "POLL"
  | .syncDelay offset => "SYNC_DELAY " ++ toString offset.toNat
  | .write port mask value =>
    "WRITE " ++ toString port.toNat ++ ", " ++ toString mask.toNat ++ ", " ++ toString value.toNat
  | .tick => "TICK"

end Sys2Proof
end

