-- ==== Sys2Proof/Machine/State.lean ====
section
/-! DEFINITION. The state of STEC as plain data: the cells of rule R20, then what the spec gives as inputs, outputs
and parameters and the fixed form of `exec` and `step` must find in the state (INVENTORY.md, "## State"). -/

namespace Sys2Proof.Machine

/-- The exception type of STEC: "The list of exception causes is empty; a model's exception type for STEC has no
constructor" (R201). Nothing raises a fault; that there is none is safe, since what the spec gives no meaning is a
`Refusal`. -/
inductive Fault : Type
deriving DecidableEq, Repr

/-- What the spec gives no meaning (R202). A refusal is safe: no claim holds of a refused run. -/
inductive Refusal where
  /-- An operation whose arm of `exec` has no meaning yet. Raised by no arm of this model. Safe. -/
  | notModelled (mnemonic : String)
  /-- Reserved opcode or non-zero must-be-zero field. Raised by the taking of a word (Fetch.lean). Safe. -/
  | reservedEncoding
  /-- WRITE with port = 3. Raised by the taking of a word and by WRITE. Safe. -/
  | noSuchPort
  /-- TICK or SET_EVENT on the main port; POLL, SYNC_DELAY or WRITE on the interrupt port. Raised by those
  operations. Safe. -/
  | wrongContext
  /-- SYNC_DELAY with offset >= PERIOD. Raised by SYNC_DELAY. Safe. -/
  | offsetOutOfContract
deriving DecidableEq, Repr

/-- The two contexts, each with its command port (R12, R70, R212). -/
inductive Ctx where
  /-- the "single hardware thread of control" -/
  | main
  /-- the "one non-reentrant interrupt handler" -/
  | interrupt
deriving DecidableEq, Repr

/-- The indices of the output ports that exist (R51). -/
inductive PortIdx where
  /-- `Port[0]` -/
  | p0
  /-- `Port[1]` -/
  | p1
  /-- `Port[2]` -/
  | p2
deriving DecidableEq, Repr

/-- "the three byte-wide output-port registers" (R20, R26). -/
structure Ports where
  /-- `Port[0]` -/
  p0 : Byte
  /-- `Port[1]` -/
  p1 : Byte
  /-- `Port[2]` -/
  p2 : Byte
deriving DecidableEq, Repr

/-- Whether the main context is inside SYNC_DELAY, and the target computed once (R20, R27). -/
inductive Sync where
  /-- the next word can be taken -/
  | idle
  /-- held until MillisCounter = target -/
  | waiting (target : Half)
deriving DecidableEq, Repr

/-- What a port signals when an operation completes: `done` with its result (R78). -/
inductive Response where
  /-- `done`, no result -/
  | done
  /-- `done` with 16 bits (NOW) -/
  | done16 (result : Half)
  /-- `done` with 8 bits (GET_EVENT) -/
  | done8 (result : Byte)
deriving DecidableEq, Repr

/-- A display-refresh request (R33, R141, R142). -/
inductive Refresh where
  /-- `Refresh(tens, ones)`, variant TWO_BUTTON -/
  | digits (tens ones : Byte)
  /-- `Refresh()`, variant SINGLE_SWITCH -/
  | plain
deriving DecidableEq, Repr

/-- One element of the total order of a run, as the environment chooses it (R13, R61; log entry 3). -/
inductive Turn where
  /-- The main context steps: it takes the presented word, or goes on waiting. -/
  | main
  /-- The interrupt port presents `word` while PinIn shows `pins`. A compare-match event presents TICK's word
  (R70, R100); `State.EnvLegal` of Safety.lean says that no other word is presented. -/
  | irq (word : CmdWord) (pins : Byte)
  /-- Reset occurs (R32). -/
  | reset
deriving DecidableEq, Repr

/-- The machine. -/
structure State where
  /-- the build parameters, never written (R2, R6; log entry 1) -/
  cfg : Config
  /-- `MillisCounter` (R21) -/
  millis : Half
  /-- `EventLatch` (R22) -/
  latch : Byte
  /-- `Prev`, the EdgeDecoderState (R23) -/
  prev : Byte
  /-- `Param` (R24); at its reset value for ever in SINGLE_SWITCH (R20) -/
  param : Byte
  /-- `Dir` (R25); at its reset value for ever in TWO_BUTTON (R20) -/
  dir : BitVec 1
  /-- `Port[0..2]` (R26) -/
  ports : Ports
  /-- `Sync` (R27) -/
  sync : Sync
  /-- the context whose operation is performed now: the port its word arrived on (R70, R212) -/
  ctx : Ctx
  /-- the level on the input bus `PinIn` (R30); an input -/
  pinIn : Byte
  /-- the words the program presents on the main port, next first (R70, R81); an input -/
  mainPort : List CmdWord
  /-- what the environment lets happen, next first (R13); an input -/
  turns : List Turn
  /-- the responses of the main port since reset, oldest first (R33, R78); an output -/
  mainResp : List Response
  /-- the responses of the interrupt port since reset, oldest first (R78); an output -/
  irqResp : List Response
  /-- "The sequence of `Refresh` events emitted since reset" (R33), oldest first; an output -/
  refreshes : List Refresh
  /-- how many free values have been drawn; the model's own (log entry 8) -/
  freeIdx : Nat
deriving DecidableEq, Repr

/-- The machine right after reset (R39, R230) in a given build. DESIGN CHOICE (log entries 4, 6, 8): nothing is
presented, PinIn shows 0xFF, no free value has been drawn. -/
def State.resetOf (c : Config) : State :=
  { cfg := c, millis := 0, latch := 0, prev := 0, param := c.paramInit, dir := 0,
    ports := { p0 := 0, p1 := 0, p2 := 0 }, sync := .idle, ctx := .main, pinIn := 0xFF,
    mainPort := [], turns := [], mainResp := [], irqResp := [], refreshes := [], freeIdx := 0 }

/-- The machine right after reset. DESIGN CHOICE (log entry 2): the build is CFG-EX in variant TWO_BUTTON. -/
def State.reset : State := State.resetOf (Config.example .twoButton)

end Sys2Proof.Machine
end

