-- ==== Sys2Proof/Machine/Operands.lean ====
section
/-! DEFINITION. What the operations compute from their operands and inputs: the mask of watched inputs, the latched
byte, the port an index names, the masked write, the wait target, the two digits. -/

namespace Sys2Proof.Machine

/-- WATCH_MASK: `BIT_A OR BIT_B` (TWO_BUTTON), `BIT_S` (SINGLE_SWITCH) (R6). -/
def watchMask (c : Config) : Byte :=
  match c.variant with
  | .twoButton => c.bitA ||| c.bitB
  | .singleSwitch => c.bitS

/-- `(NOT p) AND WATCH_MASK`, the byte TICK publishes: invert, then mask (R102; the spec's decision D7). -/
def latchByte (c : Config) (pins : Byte) : Byte := ~~~pins &&& watchMask c

/-- The port an index names; index 3 names none (R51). -/
def portOfIndex (port : BitVec 2) : Option PortIdx :=
  match port.toNat with
  | 0 => some .p0
  | 1 => some .p1
  | 2 => some .p2
  | _ => none

/-- `(old AND (NOT mask)) OR (value AND mask)` (R180, R181). -/
def maskedWrite (old mask value : Byte) : Byte := (old &&& ~~~mask) ||| (value &&& mask)

/-- `(offset + MillisCounter) mod PERIOD`, the sum taken without loss (R162; the spec's decision D3). -/
def waitTarget (c : Config) (offset millis : Half) : Half :=
  BitVec.ofNat 16 ((offset.toNat + millis.toNat) % c.period)

/-- The code of a decimal digit, `0x30 + d` (R140; G1 of spec/93_implementation_defined.md). -/
def asciiDigit (d : Nat) : Byte := 0x30 + BitVec.ofNat 8 d

/-- `enc(v)`, tens digit then ones digit, defined for `v <= 99` only (R140, U15). -/
def encDigits (v : Byte) : Option (Byte × Byte) :=
  if v.toNat ≤ 99 then some (asciiDigit (v.toNat / 10), asciiDigit (v.toNat % 10)) else none

/-- PARAM_OUT[7:0], always visible in variant TWO_BUTTON (R24). -/
def State.paramOut (s : State) : Option Byte :=
  match s.cfg.variant with
  | .twoButton => some s.param
  | .singleSwitch => none

/-- DIR_OUT, always visible in variant SINGLE_SWITCH (R25). -/
def State.dirOut (s : State) : Option (BitVec 1) :=
  match s.cfg.variant with
  | .twoButton => none
  | .singleSwitch => some s.dir

end Sys2Proof.Machine
end

