-- ==== Sys2Proof/Machine/Flags.lean ====
section
/-! DEFINITION. STEC has no status register and no condition code (rule R29). Its only conditions are POLL's edge
conditions, "values computed and used inside one POLL and kept nowhere". -/

namespace Sys2Proof.Machine

/-- "if `(curr & B) != 0` AND `(prev & B) == 0`, an edge-triggered action fires for that bit" (R132). -/
def edgeFires (curr prev bit : Byte) : Bool := (curr &&& bit != 0) && (prev &&& bit == 0)

/-- `fired = curr AND (NOT prev) AND WATCH_MASK`, the set of bits that fire in one POLL (R132). -/
def firedSet (c : Config) (curr prev : Byte) : Byte := curr &&& ~~~prev &&& watchMask c

end Sys2Proof.Machine
end

