-- ==== Sys2Proof/Machine/Ops.lean ====
section
/-! DEFINITION. The named operations over State that the meanings share: one writer per cell, the response and
refresh outputs, the output ports, the parts of TICK, entering and leaving the interrupt context, and reset. STEC has
no memory (rule R50) and no exception (R200); the interrupt is the one asynchronous entry (R203 to R208). -/

namespace Sys2Proof.Machine

/-! One writer per field (R10: `Cell <- v`). -/

def State.setMillis (s : State) (v : Half) : State := { s with millis := v }
def State.setLatch (s : State) (v : Byte) : State := { s with latch := v }
def State.setPrev (s : State) (v : Byte) : State := { s with prev := v }
def State.setParam (s : State) (v : Byte) : State := { s with param := v }
def State.setDir (s : State) (v : BitVec 1) : State := { s with dir := v }
def State.setPorts (s : State) (v : Ports) : State := { s with ports := v }
def State.setSync (s : State) (v : Sync) : State := { s with sync := v }
def State.setCtx (s : State) (v : Ctx) : State := { s with ctx := v }
def State.setPinIn (s : State) (v : Byte) : State := { s with pinIn := v }
def State.setMainPort (s : State) (v : List CmdWord) : State := { s with mainPort := v }
def State.setTurns (s : State) (v : List Turn) : State := { s with turns := v }
def State.pushMainResp (s : State) (r : Response) : State := { s with mainResp := s.mainResp ++ [r] }
def State.pushIrqResp (s : State) (r : Response) : State := { s with irqResp := s.irqResp ++ [r] }
def State.pushRefresh (s : State) (e : Refresh) : State := { s with refreshes := s.refreshes ++ [e] }
def State.bumpFree (s : State) : State := { s with freeIdx := s.freeIdx + 1 }

/-- Deliver a response on the port of the issuing context (R10, R78). -/
def State.respond (s : State) (r : Response) : State :=
  match s.ctx with
  | .main => s.pushMainResp r
  | .interrupt => s.pushIrqResp r

/-- Emit `Refresh(enc(Param))` with the value Param has now (R141). For a Param above 99, which no run reaches, the
two bytes are a free value (log entry 8). -/
def State.emitDigits (s : State) : State :=
  match encDigits s.param with
  | some (tens, ones) => s.pushRefresh (.digits tens ones)
  | none =>
    (s.pushRefresh (.digits (Config.freeDigits s.freeIdx).1 (Config.freeDigits s.freeIdx).2)).bumpFree

/-- `Port[i]` (R26). -/
def Ports.get (p : Ports) (i : PortIdx) : Byte :=
  match i with
  | .p0 => p.p0
  | .p1 => p.p1
  | .p2 => p.p2

/-- `Port[i] <- v` (R10). -/
def Ports.set (p : Ports) (i : PortIdx) (v : Byte) : Ports :=
  match i with
  | .p0 => { p with p0 := v }
  | .p1 => { p with p1 := v }
  | .p2 => { p with p2 := v }

/-- The read-modify-write of WRITE on one port (R180, R181). -/
def State.writePort (s : State) (i : PortIdx) (mask value : Byte) : State :=
  s.setPorts (s.ports.set i (maskedWrite (s.ports.get i) mask value))

/-- The level of output pin `bit` of port `i`: the latch bit drives it continuously (R26). -/
def State.pinLevel (s : State) (i : PortIdx) (bit : Nat) : Bool := (s.ports.get i).getLsbD bit

/-- Step 1 of TICK (R100, R101): "if the result would equal `PERIOD`, sets it to 0 instead". A sum that does not fit
in the cell, which no run reaches, leaves a free value (log entry 8). -/
def State.advanceCounter (s : State) : State :=
  if s.millis.toNat + 1 = s.cfg.period then s.setMillis 0
  else if s.millis.toNat + 1 < 65536 then s.setMillis (s.millis + 1)
  else (s.setMillis (Config.freeCounter s.freeIdx)).bumpFree

/-- SET_EVENT's effect: `EventLatch <- imm8`, no mask (R123). TICK publishes through it (R102). -/
def State.publishEvent (s : State) (imm8 : Byte) : State := s.setLatch imm8

/-- Step 3 of TICK, the main context's release (R100, R164; C13): "if Sync = Waiting(t) and MillisCounter = t then
Sync <- Idle ; done(SYNC_DELAY)", `done` on the main port. -/
def State.releaseHold (s : State) : State :=
  match s.sync with
  | .idle => s
  | .waiting t => if s.millis = t then (s.setSync .idle).pushMainResp .done else s

/-- Taking the interrupt (R205, R207): the interrupt context acts, PinIn shows `pins`; nothing is saved and no cell
changes. -/
def State.takeInterrupt (s : State) (pins : Byte) : State := (s.setCtx .interrupt).setPinIn pins

/-- Leaving the interrupt context at the end of its one step (R208): the main context goes on, nothing is restored. -/
def State.returnFromInterrupt (s : State) : State := s.setCtx .main

/-- The reset event (R32, R39, R230): every cell and every output record takes its reset value; the build parameters
and the inputs (what is presented next, PinIn) are the outside's and stay (log entries 4, 7). -/
def State.applyReset (s : State) : State :=
  { State.resetOf s.cfg with
    pinIn := s.pinIn, mainPort := s.mainPort, turns := s.turns, freeIdx := s.freeIdx }

end Sys2Proof.Machine
end

