-- ==== Sys2Proof/Machine/Clock.lean ====
section
/-! DEFINITION. The Millisecond Clock: TICK and NOW (spec/40_clock.md). -/

namespace Sys2Proof.Machine

/-- TICK (R100): counter, latch, release, in one atomic step; interrupt context only (R79). -/
def execTick (s : State) : Host.Outcome State Fault Refusal :=
  match s.ctx with
  | .main => .refused .wrongContext
  | .interrupt =>
    .next (((s.advanceCounter.publishEvent (latchByte s.cfg s.pinIn)).releaseHold).respond .done)

/-- NOW (R105): `result <- MillisCounter`; any context (R79). -/
def execNow (s : State) : Host.Outcome State Fault Refusal :=
  .next (s.respond (.done16 s.millis))

end Sys2Proof.Machine
end

