-- ==== Sys2Proof/Machine/EdgeDecoder.lean ====
section
/-! DEFINITION. The Edge Decoder: POLL, its two variants and its actions (spec/42_edge_decoder.md). -/

namespace Sys2Proof.Machine

/-- ActionA, the increment (R136): "clamped at an upper bound, no-op beyond it", then the refresh request. -/
def State.actionA (s : State) : State :=
  (if s.param < s.cfg.paramMax then s.setParam (s.param + 1) else s).emitDigits

/-- ActionB, the decrement (R137): "decrement floor is `1`, not `0`", then the refresh request. -/
def State.actionB (s : State) : State :=
  (if 1 < s.param then s.setParam (s.param - 1) else s).emitDigits

/-- ActionS, the toggle (R139), then the refresh request without digits (R142). -/
def State.actionS (s : State) : State :=
  (s.setDir (s.dir ^^^ 1)).pushRefresh .plain

/-- The tests and actions of one POLL on the snapshot `curr` against `prev`; BIT_A before BIT_B (R130, R133, R135). -/
def State.edgeActions (s : State) (curr prev : Byte) : State :=
  match s.cfg.variant with
  | .twoButton =>
    let afterA := if edgeFires curr prev s.cfg.bitA then s.actionA else s
    if edgeFires curr prev s.cfg.bitB then afterA.actionB else afterA
  | .singleSwitch => if edgeFires curr prev s.cfg.bitS then s.actionS else s

/-- POLL (R130): the latch is read once (R131), `Prev <- curr` is unconditional (R134); main context only (R79). -/
def execPoll (s : State) : Host.Outcome State Fault Refusal :=
  match s.ctx with
  | .interrupt => .refused .wrongContext
  | .main => .next (((s.edgeActions s.latch s.prev).setPrev s.latch).respond .done)

end Sys2Proof.Machine
end

