-- ==== Sys2Proof/Machine/EventLatch.lean ====
section
/-! DEFINITION. Event Latch access: GET_EVENT and SET_EVENT (spec/41_event_latch.md). -/

namespace Sys2Proof.Machine

/-- GET_EVENT (R120): `result <- EventLatch`, which is not cleared (R57); either context by R79. -/
def execGetEvent (s : State) : Host.Outcome State Fault Refusal :=
  .next (s.respond (.done8 s.latch))

/-- SET_EVENT (R123): `EventLatch <- imm8`; interrupt context only, refused on the main port (R124). -/
def execSetEvent (imm8 : Byte) (s : State) : Host.Outcome State Fault Refusal :=
  match s.ctx with
  | .main => .refused .wrongContext
  | .interrupt => .next ((s.publishEvent imm8).respond .done)

end Sys2Proof.Machine
end

