-- ==== Sys2Proof/Machine/OutputLatch.lean ====
section
/-! DEFINITION. The GPIO output latch: WRITE (spec/44_output_latch.md). -/

namespace Sys2Proof.Machine

/-- WRITE (R180): the masked read-modify-write of one port. Port 3 is refused first, then the wrong context (the
order of R82); main context only (R79). -/
def execWrite (port : BitVec 2) (mask value : Byte) (s : State) : Host.Outcome State Fault Refusal :=
  match portOfIndex port with
  | none => .refused .noSuchPort
  | some i =>
    match s.ctx with
    | .interrupt => .refused .wrongContext
    | .main => .next ((s.writePort i mask value).respond .done)

end Sys2Proof.Machine
end

