-- ==== Sys2Proof/Machine/SyncDelay.lean ====
section
/-! DEFINITION. The Sync-Delay primitive (spec/43_sync_delay.md). The hold itself is Sync = Waiting (rule R163): the
main port takes no word (Fetch.lean), and TICK releases it (Ops.lean, `State.releaseHold`). -/

namespace Sys2Proof.Machine

/-- SYNC_DELAY (R160): offset 0 is done at once (R161); an offset at or above PERIOD is refused (R165); otherwise the
target is computed once and the hold begins, `done` coming with its release (R162, R164). Main context only (R166). -/
def execSyncDelay (offset : Half) (s : State) : Host.Outcome State Fault Refusal :=
  match s.ctx with
  | .interrupt => .refused .wrongContext
  | .main =>
    if offset = 0 then .next (s.respond .done)
    else if s.cfg.period ≤ offset.toNat then .refused .offsetOutOfContract
    else .next (s.setSync (.waiting (waitTarget s.cfg offset s.millis)))

end Sys2Proof.Machine
end

