-- ==== Sys2Proof/Machine/Dispatch.lean ====
section
/-! DEFINITION. One arm per operation. `exec i s` performs an operation already taken from the port of the context
`s.ctx`; that the main port takes a word only when Sync = Idle (rule R81) is Fetch.lean's. -/

namespace Sys2Proof.Machine

def exec (i : Instr) (s : State) : Host.Outcome State Fault Refusal :=
  match i with
  | .now => Sys2Proof.Machine.execNow s
  | .getEvent => Sys2Proof.Machine.execGetEvent s
  | .setEvent imm8 => Sys2Proof.Machine.execSetEvent imm8 s
  | .poll => Sys2Proof.Machine.execPoll s
  | .syncDelay offset => Sys2Proof.Machine.execSyncDelay offset s
  | .write port mask value => Sys2Proof.Machine.execWrite port mask value s
  | .tick => Sys2Proof.Machine.execTick s

end Sys2Proof.Machine
end

