-- ==== Sys2Proof/Machine/Fetch.lean ====
section
/-! DEFINITION. The taking of command words from the two ports (spec/30_encoding.md, rules R70, R78 to R82). STEC has
no program counter and fetches nothing from a memory (R34, R64): the program is the words presented. -/

namespace Sys2Proof.Machine

/-- Decode a taken word and perform it; a word that is no operation is refused by name (R80, R82). -/
def performWord (w : CmdWord) (s : State) : Host.Outcome State Fault Refusal :=
  match decode w with
  | .ok i => exec i s
  | .error .reservedEncoding => .refused .reservedEncoding
  | .error .noSuchPort => .refused .noSuchPort

/-- The main context's turn. Held, it performs nothing and a presented word stays presented (R81, R163); idle, it
takes the presented word; with nothing presented it waits (log entry 4). -/
def mainTurn (s : State) : Host.Outcome State Fault Refusal :=
  match s.sync with
  | .waiting _ => .next s
  | .idle =>
    match s.mainPort with
    | [] => .next s
    | w :: ws => performWord w ((s.setMainPort ws).setCtx .main)

/-- The interrupt port's turn: enter the interrupt context, perform the presented word, leave (R205 to R208). It is
never blocked by Sync (R81). -/
def interruptTurn (w : CmdWord) (pins : Byte) (s : State) : Host.Outcome State Fault Refusal :=
  match performWord w (s.takeInterrupt pins) with
  | .next t => .next t.returnFromInterrupt
  | .fault r => .fault r
  | .refused r => .refused r

/-- Whether a word is one of the two the interrupt context alone may present: SET_EVENT and TICK (R77, R79). -/
def forInterruptPort (w : CmdWord) : Bool := opField w == 3 || opField w == 7

/-- Present `w` so that the very next step takes it: SET_EVENT and TICK on the interrupt port with the pins as they
are, every other word on the main port, which takes a word only when Sync = Idle (R77, R81; log entry 4). -/
def State.presentWord (s : State) (w : CmdWord) : State :=
  if forInterruptPort w then s.setTurns (.irq w s.pinIn :: s.turns)
  else ((s.setTurns (.main :: s.turns)).setMainPort (w :: s.mainPort)).setSync .idle

end Sys2Proof.Machine
end

