-- ==== Sys2Proof/Machine/Step.lean ====
section
/-! DEFINITION. One step: one element of the total order of a run (rule R61). -/

namespace Sys2Proof.Machine

/-- The next turn of the environment; when it lists none, the main context's (log entry 4). Reset wins over
everything (R206 (c)). -/
def step (s : State) : Host.Outcome State Fault Refusal :=
  match s.turns with
  | [] => mainTurn s
  | .main :: ts => mainTurn (s.setTurns ts)
  | .irq w pins :: ts => interruptTurn w pins (s.setTurns ts)
  | .reset :: ts => .next (s.setTurns ts).applyReset

/-- `s` with the table's word presented so that the very next step takes it (log entry 4). -/
def State.withFetchWord (s : State) (nbits w : Nat) : State :=
  s.presentWord (BitVec.ofNat 24 (w % 2 ^ nbits))

end Sys2Proof.Machine
end

