-- ==== Sys2Proof/Safety.lean ====
section
/-! DEFINITION. What counts as a good state and a good use: the values each cell may hold (rule R20), what the
environment and the program may present (R253), and what is observed of a run (R254). -/

namespace Sys2Proof.Machine

/-- `MillisCounter < PERIOD` (R21, R104 (b)). -/
abbrev State.CounterInRange (s : State) : Prop := s.millis.toNat < s.cfg.period

/-- "every bit outside `WATCH_MASK` is 0" in the latch (R22). -/
abbrev State.LatchWatched (s : State) : Prop := s.latch &&& ~~~watchMask s.cfg = 0

/-- `1 <= Param <= PARAM_MAX` in TWO_BUTTON; the absent cell of a variant is at its reset value (R20, R24). -/
abbrev State.ParamInRange (s : State) : Prop :=
  (s.cfg.variant = .twoButton → 1 ≤ s.param.toNat ∧ s.param.toNat ≤ s.cfg.paramMax.toNat ∧ s.dir = 0) ∧
  (s.cfg.variant = .singleSwitch → s.param = s.cfg.paramInit)

/-- The target of a hold, when there is one (R27). -/
def Sync.target (y : Sync) : Option Half :=
  match y with
  | .idle => none
  | .waiting t => some t

/-- A wait target is a value the counter takes and is not its value now (R20, R162). -/
abbrev State.TargetInRange (s : State) : Prop :=
  ∀ t ∈ s.sync.target, t.toNat < s.cfg.period ∧ t ≠ s.millis

/-- Every cell holds a value rule R20 gives it, in a legal build, and between steps the main context is the one that
goes on (R208). -/
abbrev State.Inv (s : State) : Prop :=
  s.cfg.Legal ∧ s.CounterInRange ∧ s.LatchWatched ∧ s.ParamInRange ∧ s.TargetInRange ∧ s.ctx = .main

/-- The interrupt port "only ever presents the word of TICK" (R70). -/
def Turn.legal (t : Turn) : Bool :=
  match t with
  | .main => true
  | .irq w _ => w == tickWord
  | .reset => true

/-- A legal environment: every turn to come is legal (R70, R79, R253). -/
abbrev State.EnvLegal (s : State) : Prop := ∀ t ∈ s.turns, t.legal = true

/-- The operations a program may perform, each within its contract (R79, R240, R253). -/
def mainContract (c : Config) (i : Instr) : Bool :=
  match i with
  | .now => true
  | .getEvent => true
  | .setEvent _ => false
  | .poll => true
  | .syncDelay offset => offset.toNat < c.period
  | .write port _ _ => port != 3
  | .tick => false

/-- A word a program may present in the build `c`. -/
def wordContract (c : Config) (w : CmdWord) : Bool :=
  match decode w with
  | .ok i => mainContract c i
  | .error _ => false

/-- A contract-keeping program: every word still to be presented is legal. -/
abbrev State.Contract (s : State) : Prop := ∀ w ∈ s.mainPort, wordContract s.cfg w = true

/-- The main context has the turn and `ts` are the turns left after it: a listed `main` turn, or an empty list
(log entry 4). -/
abbrev State.MainTurn (s : State) (ts : List Turn) : Prop :=
  s.turns = .main :: ts ∨ (s.turns = [] ∧ ts = [])

/-- The turn of a compare-match event with `pins` on PinIn: TICK's word on the interrupt port (R31, R100). -/
def Turn.compareMatch (pins : Byte) : Turn := .irq tickWord pins

/-- Whether a turn is a compare-match event. -/
def Turn.isTick (t : Turn) : Bool :=
  match t with
  | .main => false
  | .irq w _ => w == tickWord
  | .reset => false

/-- How many compare-match events a list of turns holds. -/
def tickCount (ts : List Turn) : Nat := ts.countP Turn.isTick

/-- A run "may be observed at any point at which `Sync = Idle` and the latest word on the main port has signalled
`done`" (R254). While no reset comes between, a taken word has signalled `done` exactly when Sync = Idle (R78). DESIGN
CHOICE (log entry 13): a point after a reset that aborted a hold, before another word is taken, is observable although
the aborted SYNC_DELAY never signals `done`; so is a point before any word was taken. -/
def State.observable (s : State) : Bool := s.sync == .idle

/-- What is observed of a run: "the cells, the pins, the sequence of responses and the sequence of `Refresh` events"
(R254). -/
structure Observation where
  millis : Half
  latch : Byte
  prev : Byte
  paramOut : Option Byte
  dirOut : Option (BitVec 1)
  ports : Ports
  sync : Sync
  mainResp : List Response
  irqResp : List Response
  refreshes : List Refresh
deriving DecidableEq, Repr

/-- The observation of a state (R33, R254). -/
def State.observe (s : State) : Observation :=
  { millis := s.millis, latch := s.latch, prev := s.prev, paramOut := s.paramOut, dirOut := s.dirOut,
    ports := s.ports, sync := s.sync, mainResp := s.mainResp, irqResp := s.irqResp, refreshes := s.refreshes }

end Sys2Proof.Machine
end

