-- ==== Sys2Proof/Certificates/Slice0/Obligations.lean ====
section
/-! DEFINITION. The statements for the provers. Each docstring names the rules of spec/ it formalises, and the rows of
spec/92_eei_decisions.md (D<n>), the inferences of the spec ("derived" in its text) or the log entries a clause rests
on. The lists of responses and Refresh events are the model's record of the outputs of R33 (log entry 7), and the
lists of turns and presented words its record of the environment and the program (log entries 3 and 4). -/

namespace Sys2Proof.Machine

/-- The edge condition of R132, as the rule writes it. -/
abbrev Rises (curr prev bit : Byte) : Prop := curr &&& bit ≠ 0 ∧ prev &&& bit = 0

/-- The Refresh event whose two bytes are `0x30 + (v div 10)` and `0x30 + (v mod 10)` (R140). -/
abbrev digitsOf (v : Byte) : Refresh := .digits (0x30 + v / 10) (0x30 + v % 10)

/-- How often a watched bit rises along the samples successive POLLs read, `prev` being what came before them
(R246: "fires at POLL `k` exactly when `s_{i(k)} = 1` and `s_{i(k-1)} = 0`"). -/
def risingEdges (bit : Byte) : Byte → List Byte → Nat
  | _, [] => 0
  | prev, curr :: rest => (if Rises curr prev bit then 1 else 0) + risingEdges bit curr rest

/-- The sample each POLL reads when POLL `k` follows the compare-match events of the `k`-th group: the latest one, or
the latch as it stands when the group is empty (R125, R246). -/
def pollSamples (c : Config) : Byte → List (List Byte) → List Byte
  | _, [] => []
  | latch, group :: rest =>
    let sample := (group.getLast?.map (latchByte c)).getD latch
    sample :: pollSamples c sample rest

/-- The turns of such a schedule: each group of compare-match events, then the main context. -/
def pollTurns : List (List Byte) → List Turn
  | [] => []
  | group :: rest => group.map Turn.compareMatch ++ (.main :: pollTurns rest)

/-- The last of `samples`, or `prev` when there is none. -/
def lastSample (prev : Byte) (samples : List Byte) : Byte := samples.getLast?.getD prev

end Sys2Proof.Machine

open Sys2Proof Sys2Proof.Machine

/-! Encoding (spec/30_encoding.md; its layouts are the spec's decision D2) -/

/-- The words of R77 and of spec/95_test_vectors.md 2.1, written out, decode as the spec says (D2). -/
def Obligations.DecodeReadsTheSpecsWords : Prop :=
  decode 0x100000 = .ok .now ∧ decode 0x200000 = .ok .getEvent ∧ decode 0x300003 = .ok (.setEvent 0x03) ∧
  decode 0x400000 = .ok .poll ∧ decode 0x5003E7 = .ok (.syncDelay 999) ∧
  decode 0x610F06 = .ok (.write 1 0x0F 0x06) ∧ decode 0x62FFC3 = .ok (.write 2 0xFF 0xC3) ∧
  decode 0x700000 = .ok .tick ∧ tickWord = 0x700000 ∧
  decode 0x000000 = .error .reservedEncoding ∧ decode 0xF12345 = .error .reservedEncoding ∧
  decode 0x100001 = .error .reservedEncoding ∧ decode 0x300100 = .error .reservedEncoding ∧
  decode 0x510000 = .error .reservedEncoding ∧ decode 0x640000 = .error .reservedEncoding ∧
  decode 0x630000 = .error .noSuchPort

/-- Decoding the word of a well-formed operation gives it back, every operand at every value (R71 to R77; D2). -/
def Obligations.DecodeOfEncodeIsTheOperation : Prop :=
  ∀ i : Instr, i.WellFormed → decode (encode i) = .ok i

/-- A word that decodes is the word of the operation read from it, and that operation is well formed (R77, R82; D2). -/
def Obligations.EncodeOfDecodeIsTheWord : Prop :=
  ∀ (w : CmdWord) (i : Instr), decode w = .ok i → i.WellFormed ∧ encode i = w

/-- Exactly the words no row of R77 selects are reserved encodings, and exactly the WRITE words with port 3 name no
port (R80 items 1 to 3, R82; D2, D16, D17). -/
def Obligations.RejectedWordsAreExactlyThese : Prop :=
  ∀ w : CmdWord,
    (decode w = .error .reservedEncoding ↔ ∀ r ∈ opcodeMap, r.selects w = false) ∧
    (decode w = .error .noSuchPort ↔ w &&& 0xFF0000 = 0x630000)

/-- A word "selects exactly one row or is refused": no two rows of R77 select one word (R82; D2). -/
def Obligations.OpcodeRowsDoNotOverlap : Prop :=
  ∀ (w : CmdWord), ∀ r ∈ opcodeMap, ∀ q ∈ opcodeMap, r.selects w = true → q.selects w = true → r = q

/-! The step -/

/-- When the main context has the turn, Sync is Idle and the presented word decodes, the step performs that operation
in the main context, the word and the turn consumed (R70, R81; log entries 3, 4). -/
def Obligations.MainTurnRunsThePresentedWord : Prop :=
  ∀ (s : State) (ts : List Turn) (w : CmdWord) (ws : List CmdWord) (i : Instr),
    s.MainTurn ts → s.sync = .idle → s.mainPort = w :: ws → decode w = .ok i →
    step s = exec i { s with turns := ts, mainPort := ws, ctx := .main }

/-- When the interrupt port presents a word that decodes, the step performs that operation in the interrupt context,
whatever Sync holds, and the main context goes on afterwards (R70, R81, R205 to R208; log entry 3). -/
def Obligations.InterruptTurnRunsThePresentedWord : Prop :=
  ∀ (s : State) (ts : List Turn) (w : CmdWord) (pins : Byte) (i : Instr),
    s.turns = .irq w pins :: ts → decode w = .ok i →
    (∀ t, exec i { s with turns := ts, ctx := .interrupt, pinIn := pins } = .next t →
      step s = .next { t with ctx := .main }) ∧
    (∀ r, exec i { s with turns := ts, ctx := .interrupt, pinIn := pins } = .refused r → step s = .refused r)

/-- A taken word that is no operation is refused under its name, on either port (R80, R82, R202; D16). -/
def Obligations.WordsThatAreNoOperationAreRefused : Prop :=
  ∀ (s : State) (ts : List Turn) (w : CmdWord) (ws : List CmdWord) (pins : Byte),
    ((s.MainTurn ts ∧ s.sync = .idle ∧ s.mainPort = w :: ws) ∨ s.turns = .irq w pins :: ts) →
    (decode w = .error .reservedEncoding → step s = .refused .reservedEncoding) ∧
    (decode w = .error .noSuchPort → step s = .refused .noSuchPort)

/-- R163: during a hold the main context performs nothing, no word is taken and no cell changes, while a compare-match
event advances the counter and refreshes the latch. -/
def Obligations.HeldMainContextPerformsNothing : Prop :=
  ∀ (s : State) (x : Half) (ts : List Turn), s.sync = .waiting x →
    (s.MainTurn ts → step s = .next { s with turns := ts }) ∧
    (∀ pins, s.turns = Turn.compareMatch pins :: ts → s.cfg.Legal → s.CounterInRange →
      ∃ t, step s = .next t ∧ t.millis.toNat = (s.millis.toNat + 1) % s.cfg.period ∧
        t.latch = latchByte s.cfg pins ∧ t.mainPort = s.mainPort)

/-- There is no cause of an exception: "a model's exception type for STEC has no constructor" (R201). -/
def Obligations.NoExceptionCauseExists : Prop := IsEmpty Fault

/-- An operation is refused in exactly the cases of R202, each under its name (D16; the order of the checks is R82's
and R160's). -/
def Obligations.OperationsAreRefusedExactlyWhen : Prop :=
  ∀ (i : Instr) (s : State) (r : Refusal), exec i s = .refused r ↔
    (r = .noSuchPort ∧ ∃ mask value, i = .write 3 mask value) ∨
    (r = .wrongContext ∧ s.ctx = .main ∧ (i = .tick ∨ ∃ imm8, i = .setEvent imm8)) ∨
    (r = .wrongContext ∧ s.ctx = .interrupt ∧
      (i = .poll ∨ (∃ offset, i = .syncDelay offset) ∨
        ∃ port mask value, port ≠ 3 ∧ i = .write port mask value)) ∨
    (r = .offsetOutOfContract ∧ s.ctx = .main ∧
      ∃ offset, offset ≠ 0 ∧ s.cfg.period ≤ offset.toNat ∧ i = .syncDelay offset)

/-- When an operation completes, the port of its context signals `done` with the result of R78, at once, except that a
SYNC_DELAY with a non-zero offset signals nothing yet (D22). -/
def Obligations.CompletionSignalsTheResult : Prop :=
  ∀ (i : Instr) (s t : State), exec i s = .next t →
    ((∃ offset, offset ≠ 0 ∧ i = .syncDelay offset) → t.mainResp = s.mainResp ∧ t.irqResp = s.irqResp) ∧
    ((¬ ∃ offset, offset ≠ 0 ∧ i = .syncDelay offset) →
      (s.ctx = .main → t.irqResp = s.irqResp ∧
        t.mainResp = s.mainResp ++ [match i with
          | .now => .done16 s.millis
          | .getEvent => .done8 s.latch
          | _ => .done]) ∧
      (s.ctx = .interrupt →
        t.irqResp = s.irqResp ++ [match i with
          | .now => .done16 s.millis
          | .getEvent => .done8 s.latch
          | _ => .done]))

/-! Reset and the invariant -/

/-- The reset event gives every cell its value of R39 and empties the output records; the build, the pins and what is
presented next stay, and so does the count of free values drawn. Of these values only `Prev = 0` is the source's; the
others are the spec's decisions D12 to D14 (log entry 5). The model's choices: the words and turns stay (log entry 4),
the pins stay (log entry 6), the records are emptied (log entry 7), the count stays (log entry 8). -/
def Obligations.ResetEventGivesTheResetValues : Prop :=
  ∀ (s : State) (ts : List Turn), s.turns = .reset :: ts →
    step s = .next { s with
      millis := 0, latch := 0, prev := 0, param := s.cfg.paramInit, dir := 0
      ports := { p0 := 0, p1 := 0, p2 := 0 }, sync := .idle, ctx := .main
      turns := ts, mainResp := [], irqResp := [], refreshes := [] }

/-- The state after reset holds the values of R39 in every build (D12 to D14, log entry 5), nothing has been signalled,
and State.reset is that of CFG-EX in variant TWO_BUTTON (log entry 2). -/
def Obligations.StateAfterResetIsTheTable : Prop :=
  (∀ c : Config, (State.resetOf c).millis = 0 ∧ (State.resetOf c).latch = 0 ∧ (State.resetOf c).prev = 0 ∧
    (State.resetOf c).param = c.paramInit ∧ (State.resetOf c).dir = 0 ∧
    (∀ j, (State.resetOf c).ports.get j = 0) ∧ (State.resetOf c).sync = .idle ∧
    (State.resetOf c).refreshes = [] ∧ (State.resetOf c).mainResp = [] ∧ (State.resetOf c).irqResp = []) ∧
  State.reset = State.resetOf (Config.example .twoButton)

/-- The state after reset meets the invariant in every legal build, and so does State.reset, in whose list of turns
nothing is illegal (R20, R39). It rests on the reset values the spec decides, D12 to D14 (log entry 5), and for
State.reset on the model's choice of build (log entry 2) and of an empty list of turns (log entry 4). -/
def Obligations.ResetMeetsTheInvariant : Prop :=
  (∀ c : Config, c.Legal → (State.resetOf c).Inv) ∧ State.reset.Inv ∧ State.reset.EnvLegal

/-- Every step in a legal environment keeps every cell within the values of R20: `MillisCounter < PERIOD`, unwatched
latch bits 0, `1 <= Param <= PARAM_MAX`, the absent cell at its reset value, the wait target a counter value still to
come (R20, R21, R22, R24, R104 (b); the bounds are inferences the spec marks as its own, D7, D13; for a reset step it
rests on the reset values of D12 to D14, log entry 5). -/
def Obligations.EveryStepKeepsTheInvariant : Prop :=
  ∀ s t : State, s.Inv → s.EnvLegal → step s = .next t → t.Inv ∧ t.EnvLegal

/-- A program that keeps its contract is never refused: in a legal environment every number of steps succeeds, and the
invariant and the contract still hold after them (R202, R253; D16; for a reset step the invariant rests on D12 to D14,
log entry 5, and the contract on what is presented staying, log entry 4). -/
def Obligations.ContractKeepingRunsAreNeverRefused : Prop :=
  ∀ (n : Nat) (s : State), s.Inv → s.EnvLegal → s.Contract →
    ∃ t : State, Host.Core.run Sys2Proof.core n s = .next t ∧ t.Inv ∧ t.EnvLegal ∧ t.Contract

/-- No run changes a build parameter (R2, R6). -/
def Obligations.NoRunChangesTheBuild : Prop :=
  ∀ (n : Nat) (s t : State), Host.Core.run Sys2Proof.core n s = .next t → t.cfg = s.cfg

/-- F_CLK, and with it COMPARE, changes nothing but itself: no operation reads or writes the timer's parameters
(R216; D6, D24). -/
def Obligations.TimerParametersAreInert : Prop :=
  ∀ (s : State) (f : Nat),
    (∀ t, step s = .next t →
      step { s with cfg := { s.cfg with fClk := f } } = .next { t with cfg := { t.cfg with fClk := f } }) ∧
    (∀ r, step s = .refused r → step { s with cfg := { s.cfg with fClk := f } } = .refused r)

/-! The clock (spec/40_clock.md) -/

/-- TICK in the interrupt context completes: the counter is `(c + 1) mod PERIOD`, the latch is the inverted and masked
pins, a hold whose target the counter reaches is released with `done` on the main port, and `done` is signalled on the
interrupt port; nothing else changes (R100 to R103, R164; D7, D15, C13). -/
def Obligations.TickCompletesWithCounterLatchAndRelease : Prop :=
  ∀ s : State, s.ctx = .interrupt → s.cfg.Legal → s.CounterInRange →
    exec .tick s = .next { s with
      millis := BitVec.ofNat 16 ((s.millis.toNat + 1) % s.cfg.period)
      latch := ~~~s.pinIn &&& watchMask s.cfg
      sync := if s.sync = .waiting (BitVec.ofNat 16 ((s.millis.toNat + 1) % s.cfg.period)) then .idle else s.sync
      mainResp :=
        if s.sync = .waiting (BitVec.ofNat 16 ((s.millis.toNat + 1) % s.cfg.period))
        then s.mainResp ++ [.done] else s.mainResp
      irqResp := s.irqResp ++ [.done] }

/-- R101: TICK makes the counter `(c + 1) mod PERIOD`, that is `c + 1` below `PERIOD - 1` and 0 at `PERIOD - 1`, and
the counter changes by this step and by reset only. -/
def Obligations.CounterChangesOnlyByTickAndReset : Prop :=
  (∀ s : State, s.ctx = .interrupt → s.cfg.Legal → s.CounterInRange →
    ∃ t, exec .tick s = .next t ∧ t.millis.toNat = (s.millis.toNat + 1) % s.cfg.period ∧
      (s.millis.toNat < s.cfg.period - 1 → t.millis.toNat = s.millis.toNat + 1) ∧
      (s.millis.toNat = s.cfg.period - 1 → t.millis = 0)) ∧
  (∀ s t : State, step s = .next t → t.millis ≠ s.millis →
    (∃ pins ts, s.turns = Turn.compareMatch pins :: ts) ∨ ∃ ts, s.turns = .reset :: ts)

/-- In every state, the unreachable ones too, TICK in the interrupt context completes and leaves Prev, Param, Dir, the
ports and the Refresh events alone, and touches Sync and the main port's responses only by releasing a hold whose target
the counter has reached (R28, R207; C13). -/
def Obligations.TickFrame : Prop :=
  ∀ s : State, s.ctx = .interrupt →
    ∃ t, exec .tick s = .next t ∧
      t.prev = s.prev ∧ t.param = s.param ∧ t.dir = s.dir ∧ t.ports = s.ports ∧ t.refreshes = s.refreshes ∧
      t.cfg = s.cfg ∧ t.mainPort = s.mainPort ∧ t.turns = s.turns ∧ t.pinIn = s.pinIn ∧ t.ctx = s.ctx ∧
      ((t.sync = s.sync ∧ t.mainResp = s.mainResp) ∨
       (s.sync = .waiting t.millis ∧ t.sync = .idle ∧ t.mainResp = s.mainResp ++ [.done]))

/-- After `j` compare-match events from value `c` the counter is `(c + j) mod PERIOD` and the latch holds the last
sample (R104 (a), an inference of the spec; R22, R125). -/
def Obligations.TicksAdvanceTheCounterModuloPeriod : Prop :=
  ∀ (pins : List Byte) (rest : List Turn) (s : State), s.cfg.Legal → s.CounterInRange →
    s.turns = pins.map Turn.compareMatch ++ rest →
    ∃ t : State, Host.Core.run Sys2Proof.core pins.length s = .next t ∧ t.turns = rest ∧
      t.millis.toNat = (s.millis.toNat + pins.length) % s.cfg.period ∧
      t.latch = ((pins.getLast?.map (latchByte s.cfg)).getD s.latch)

/-- From `n`, the counter first returns to 0 after exactly `PERIOD - n` ticks and takes the values `n + 1` up to
`PERIOD - 1` in between (R104 (c), an inference of the spec; the source's property S1). -/
def Obligations.CounterFirstReturnsToZero : Prop :=
  ∀ (pins : List Byte) (rest : List Turn) (s : State), s.cfg.Legal → s.CounterInRange →
    s.turns = pins.map Turn.compareMatch ++ rest → 0 < pins.length →
    pins.length ≤ s.cfg.period - s.millis.toNat →
    ∃ t : State, Host.Core.run Sys2Proof.core pins.length s = .next t ∧
      t.millis.toNat =
        if pins.length = s.cfg.period - s.millis.toNat then 0 else s.millis.toNat + pins.length

/-- NOW completes in either context with MillisCounter, whole, as its result and changes no cell (R105; in the
interrupt context by the contract of R79; D22). -/
def Obligations.NowReturnsTheCounter : Prop :=
  ∀ s : State,
    (s.ctx = .main → s.sync = .idle →
      exec .now s = .next { s with mainResp := s.mainResp ++ [.done16 s.millis] }) ∧
    (s.ctx = .interrupt → exec .now s = .next { s with irqResp := s.irqResp ++ [.done16 s.millis] })

/-- Two NOWs with `j` compare-match events between them return `v` and `(v + j) mod PERIOD`, so with `j = 0` or
`j = PERIOD` the same value twice (R105, R57, R104 (d), R249; inferences of the spec). -/
def Obligations.TwoNowsDifferByTheTicksBetween : Prop :=
  ∀ (pins : List Byte) (rest : List Turn) (ws : List CmdWord) (s : State),
    s.cfg.Legal → s.CounterInRange → s.sync = .idle →
    s.turns = .main :: (pins.map Turn.compareMatch ++ .main :: rest) →
    s.mainPort = 0x100000 :: 0x100000 :: ws →
    ∃ t : State, Host.Core.run Sys2Proof.core (pins.length + 2) s = .next t ∧
      t.mainResp = s.mainResp ++
        [.done16 s.millis, .done16 (BitVec.ofNat 16 ((s.millis.toNat + pins.length) % s.cfg.period))] ∧
      t.mainPort = ws ∧ t.turns = rest

/-! The latch (spec/41_event_latch.md) -/

/-- GET_EVENT completes in either context with EventLatch as its result; it changes no cell and does not clear the
latch (R120, R57; in the interrupt context by R79; D22). -/
def Obligations.GetEventReturnsTheLatch : Prop :=
  ∀ s : State,
    (s.ctx = .main → s.sync = .idle →
      exec .getEvent s = .next { s with mainResp := s.mainResp ++ [.done8 s.latch] }) ∧
    (s.ctx = .interrupt → exec .getEvent s = .next { s with irqResp := s.irqResp ++ [.done8 s.latch] })

/-- SET_EVENT in the interrupt context completes with its byte in the latch, unmasked, and changes nothing else (R123;
that the interrupt port presents it as a word is the model's, log entry 4). -/
def Obligations.SetEventPublishesItsByte : Prop :=
  ∀ (imm8 : Byte) (s : State), s.ctx = .interrupt →
    exec (.setEvent imm8) s = .next { s with latch := imm8, irqResp := s.irqResp ++ [.done] }

/-- A sample that the next compare-match event overwrites leaves no trace anywhere in the state (R125 (b), an inference
of the spec). -/
def Obligations.OverwrittenSampleLeavesNoTrace : Prop :=
  ∀ (s : State) (lost lost' kept : Byte) (rest : List Turn),
    Host.Core.run Sys2Proof.core 2
      { s with turns := Turn.compareMatch lost :: Turn.compareMatch kept :: rest } =
    Host.Core.run Sys2Proof.core 2
      { s with turns := Turn.compareMatch lost' :: Turn.compareMatch kept :: rest }

/-- Bits of PinIn outside WATCH_MASK have no effect on anything (R30, an inference of the spec; D7). -/
def Obligations.UnwatchedPinsAreInert : Prop :=
  ∀ (s t : State) (pins pins' : Byte) (ts : List Turn),
    pins &&& watchMask s.cfg = pins' &&& watchMask s.cfg →
    step { s with turns := Turn.compareMatch pins :: ts } = .next t →
    step { s with turns := Turn.compareMatch pins' :: ts } = .next { t with pinIn := pins' }

/-! The edge decoder (spec/42_edge_decoder.md) -/

/-- POLL in variant TWO_BUTTON completes: a rising BIT_A increments Param unless it is at PARAM_MAX, then a rising BIT_B
decrements it unless it is 1, each followed by a Refresh with the digits of the value then reached; Prev receives the
latch; nothing else changes (R130 to R137, R141, R146; D9, D10, D26, G1). -/
def Obligations.PollTwoButtonResult : Prop :=
  ∀ (s : State) (afterA afterB : Byte), s.ctx = .main → s.sync = .idle → s.cfg.variant = .twoButton →
    1 ≤ s.param.toNat → s.param.toNat ≤ s.cfg.paramMax.toNat → s.cfg.paramMax.toNat ≤ 99 →
    afterA = (if Rises s.latch s.prev s.cfg.bitA ∧ s.param ≠ s.cfg.paramMax then s.param + 1 else s.param) →
    afterB = (if Rises s.latch s.prev s.cfg.bitB ∧ afterA ≠ 1 then afterA - 1 else afterA) →
    exec .poll s = .next { s with
      param := afterB, prev := s.latch, mainResp := s.mainResp ++ [.done]
      refreshes := s.refreshes ++
        (if Rises s.latch s.prev s.cfg.bitA then [digitsOf afterA] else []) ++
        (if Rises s.latch s.prev s.cfg.bitB then [digitsOf afterB] else []) }

/-- POLL in variant SINGLE_SWITCH completes: a rising BIT_S exchanges 0 and 1 in Dir and emits one Refresh without
digits; Prev receives the latch; nothing else changes (R130 to R134, R139, R142, R146; D11, D12, D26). -/
def Obligations.PollSingleSwitchResult : Prop :=
  ∀ s : State, s.ctx = .main → s.sync = .idle → s.cfg.variant = .singleSwitch →
    exec .poll s = .next { s with
      dir := if Rises s.latch s.prev s.cfg.bitS then (if s.dir = 0 then 1 else 0) else s.dir
      prev := s.latch, mainResp := s.mainResp ++ [.done]
      refreshes := s.refreshes ++ (if Rises s.latch s.prev s.cfg.bitS then [.plain] else []) }

/-- R136, seen through a POLL in which BIT_A alone rises: below PARAM_MAX Param grows by exactly 1, without overflow; at
it and beyond it Param is unchanged; in either case one Refresh is emitted, with `enc` of the value Param then has;
nothing else changes but Prev and the response. -/
def Obligations.IncrementClampsAtTheMaximum : Prop :=
  ∀ s : State, s.ctx = .main → s.sync = .idle → s.cfg.variant = .twoButton →
    Rises s.latch s.prev s.cfg.bitA → ¬ Rises s.latch s.prev s.cfg.bitB →
    ∃ (p : Byte) (e : Refresh) (f : Nat),
      exec .poll s = .next { s with
        param := p, prev := s.latch, mainResp := s.mainResp ++ [.done], refreshes := s.refreshes ++ [e], freeIdx := f } ∧
      (s.param.toNat < s.cfg.paramMax.toNat → p.toNat = s.param.toNat + 1) ∧
      (s.cfg.paramMax.toNat ≤ s.param.toNat → p = s.param) ∧
      (∀ d, encDigits p = some d → e = .digits d.1 d.2 ∧ f = s.freeIdx)

/-- R137, seen through a POLL in which BIT_B alone rises: above 1 Param falls by exactly 1; at or below 1 (the
unreachable 0 too) it is unchanged; in either case one Refresh is emitted, with `enc` of the value Param then has;
nothing else changes but Prev and the response. -/
def Obligations.DecrementStopsAtOne : Prop :=
  ∀ s : State, s.ctx = .main → s.sync = .idle → s.cfg.variant = .twoButton →
    ¬ Rises s.latch s.prev s.cfg.bitA → Rises s.latch s.prev s.cfg.bitB →
    ∃ (p : Byte) (e : Refresh) (f : Nat),
      exec .poll s = .next { s with
        param := p, prev := s.latch, mainResp := s.mainResp ++ [.done], refreshes := s.refreshes ++ [e], freeIdx := f } ∧
      (1 < s.param.toNat → p.toNat = s.param.toNat - 1) ∧
      (s.param.toNat ≤ 1 → p = s.param) ∧
      (∀ d, encDigits p = some d → e = .digits d.1 d.2 ∧ f = s.freeIdx)

/-- Both bits rising in one POLL: at PARAM_MAX Param ends one lower (when PARAM_MAX > 1), elsewhere it ends where it
began, and two Refresh events are emitted (R138, an inference of the spec from its decision D9: A before B). -/
def Obligations.BothButtonsAtAClamp : Prop :=
  ∀ s : State, s.ctx = .main → s.sync = .idle → s.cfg.variant = .twoButton →
    1 ≤ s.param.toNat → s.param.toNat ≤ s.cfg.paramMax.toNat →
    Rises s.latch s.prev s.cfg.bitA → Rises s.latch s.prev s.cfg.bitB →
    ∃ t : State, exec .poll s = .next t ∧
      (s.param = s.cfg.paramMax → 1 < s.param.toNat → t.param.toNat = s.param.toNat - 1) ∧
      ((s.param ≠ s.cfg.paramMax ∨ s.param.toNat = 1) → t.param = s.param) ∧
      t.refreshes.length = s.refreshes.length + 2

/-- R146: POLL writes Prev, and Param (TWO_BUTTON) or Dir (SINGLE_SWITCH), and emits Refresh events; no port, nor the
counter, the latch or Sync changes; and Param and Dir change, reset apart, only in a step in which the main context
takes POLL's word and a watched bit has a detected edge. -/
def Obligations.OnlyPollOnAnEdgeChangesTheParameter : Prop :=
  (∀ s : State, s.ctx = .main → s.sync = .idle →
    ∃ (p : Byte) (d : BitVec 1) (r : List Refresh) (f : Nat),
      exec .poll s = .next { s with
        prev := s.latch, param := p, dir := d, mainResp := s.mainResp ++ [.done]
        refreshes := s.refreshes ++ r, freeIdx := f } ∧
      (s.cfg.variant = .twoButton → d = s.dir) ∧ (s.cfg.variant = .singleSwitch → p = s.param)) ∧
  (∀ s t : State, step s = .next t → (t.param ≠ s.param ∨ t.dir ≠ s.dir) →
    (∃ ts, s.turns = .reset :: ts) ∨
    (s.sync = .idle ∧ (∃ ts ws, s.MainTurn ts ∧ s.mainPort = 0x400000 :: ws) ∧
      firedSet s.cfg s.latch s.prev ≠ 0))

/-- POLL ends with Prev equal to the latch it read, whether or not a bit fired, and nothing but POLL and reset writes
Prev (R134; that the whole byte is written is D26). -/
def Obligations.PrevIsWrittenByPollAndResetOnly : Prop :=
  (∀ s : State, s.ctx = .main → s.sync = .idle → ∃ t, exec .poll s = .next t ∧ t.prev = s.latch) ∧
  (∀ s t : State, step s = .next t → t.prev ≠ s.prev →
    (∃ ts, s.turns = .reset :: ts) ∨
    (s.sync = .idle ∧ (∃ ts ws, s.MainTurn ts ∧ s.mainPort = 0x400000 :: ws) ∧ t.prev = s.latch))

/-- A second POLL with no TICK between fires nothing, whatever the first did (R143 (c), an inference of the spec). -/
def Obligations.SecondPollFiresNothing : Prop :=
  ∀ s t : State, exec .poll s = .next t →
    ∃ u, exec .poll t = .next u ∧ u = { t with mainResp := t.mainResp ++ [.done] }

/-- Holding the latch constant across any number of consecutive POLLs fires what the first of them fires, once
(R143 (b), an inference of the spec; the source's property S5). -/
def Obligations.HoldingFiresOnce : Prop :=
  ∀ (n : Nat) (rest : List Turn) (ws : List CmdWord) (s : State), s.sync = .idle →
    s.turns = List.replicate (n + 1) .main ++ rest →
    s.mainPort = List.replicate (n + 1) (0x400000 : CmdWord) ++ ws →
    ∃ u t : State, step s = .next u ∧ Host.Core.run Sys2Proof.core (n + 1) s = .next t ∧
      t.param = u.param ∧ t.dir = u.dir ∧ t.refreshes = u.refreshes ∧ t.prev = s.latch ∧
      t.mainPort = ws ∧ t.turns = rest

/-- In variant TWO_BUTTON, over any schedule of POLLs with any compare-match events before each, exactly one Refresh is
emitted for each rising edge of BIT_A or BIT_B in the samples the POLLs read (R246, R143, inferences of the spec; D10:
one Refresh for each bit fired). -/
def Obligations.TwoButtonFiresOncePerSampledEdge : Prop :=
  ∀ (groups : List (List Byte)) (rest : List Turn) (ws : List CmdWord) (s : State),
    s.cfg.Legal → s.CounterInRange → s.sync = .idle → s.cfg.variant = .twoButton →
    s.turns = pollTurns groups ++ rest →
    s.mainPort = List.replicate groups.length (0x400000 : CmdWord) ++ ws →
    ∃ t : State, Host.Core.run Sys2Proof.core (pollTurns groups).length s = .next t ∧
      t.refreshes.length = s.refreshes.length +
        risingEdges s.cfg.bitA s.prev (pollSamples s.cfg s.latch groups) +
        risingEdges s.cfg.bitB s.prev (pollSamples s.cfg s.latch groups) ∧
      t.prev = lastSample s.prev (pollSamples s.cfg s.latch groups) ∧
      t.turns = rest ∧ t.mainPort = ws

/-- In variant SINGLE_SWITCH, over any such schedule, Dir is toggled once for each rising edge of BIT_S in the samples the
POLLs read (R246, R143, inferences of the spec; R139; D12). -/
def Obligations.SwitchTogglesOncePerSampledEdge : Prop :=
  ∀ (groups : List (List Byte)) (rest : List Turn) (ws : List CmdWord) (s : State),
    s.cfg.Legal → s.CounterInRange → s.sync = .idle → s.cfg.variant = .singleSwitch →
    s.turns = pollTurns groups ++ rest →
    s.mainPort = List.replicate groups.length (0x400000 : CmdWord) ++ ws →
    ∃ t : State, Host.Core.run Sys2Proof.core (pollTurns groups).length s = .next t ∧
      t.dir.toNat =
        (s.dir.toNat + risingEdges s.cfg.bitS s.prev (pollSamples s.cfg s.latch groups)) % 2 ∧
      t.prev = lastSample s.prev (pollSamples s.cfg s.latch groups) ∧
      t.turns = rest ∧ t.mainPort = ws

/-- The digits of a value from 0 to 99 are two ASCII digits that spell it, tens first, with a leading `0` below 10
(R140, R54; the codes are G1). -/
def Obligations.DigitsSpellTheValue : Prop :=
  (∀ v : Byte, v.toNat ≤ 99 → ∃ tens ones : Byte, encDigits v = some (tens, ones) ∧
    0x30 ≤ tens.toNat ∧ tens.toNat ≤ 0x39 ∧ 0x30 ≤ ones.toNat ∧ ones.toNat ≤ 0x39 ∧
    10 * (tens.toNat - 0x30) + (ones.toNat - 0x30) = v.toNat) ∧
  encDigits 7 = some (0x30, 0x37) ∧ encDigits 50 = some (0x35, 0x30) ∧ encDigits 99 = some (0x39, 0x39)

/-- In variant TWO_BUTTON the last Refresh a step emits carries the digits of the Param the step leaves: the digits are
"consistent with the current AdjustableParameter value" (R141, R250; D10). -/
def Obligations.RefreshCarriesTheCurrentParameter : Prop :=
  ∀ (s t : State), s.Inv → s.cfg.variant = .twoButton → step s = .next t →
    (∀ ts, s.turns ≠ .reset :: ts) → t.refreshes ≠ s.refreshes →
    ∃ d, encDigits t.param = some d ∧ t.refreshes.getLast? = some (.digits d.1 d.2)

/-- An input already active at the first TICK after reset counts as a press at the first POLL (R40, an inference of the
spec; D12 to D14, log entry 5). -/
def Obligations.PressAtPowerOnIsAnEdge : Prop :=
  ∀ (c : Config) (pins : Byte), c.Legal →
    (c.variant = .twoButton → pins &&& c.bitA = 0 → pins &&& c.bitB ≠ 0 →
      ∃ t : State, Host.Core.run Sys2Proof.core 2
          { State.resetOf c with turns := [Turn.compareMatch pins, .main], mainPort := [0x400000] } = .next t ∧
        t.param.toNat = min (c.paramInit.toNat + 1) c.paramMax.toNat ∧ t.refreshes = [digitsOf t.param]) ∧
    (c.variant = .singleSwitch → pins &&& c.bitS = 0 →
      ∃ t : State, Host.Core.run Sys2Proof.core 2
          { State.resetOf c with turns := [Turn.compareMatch pins, .main], mainPort := [0x400000] } = .next t ∧
        t.dir = 1 ∧ t.refreshes = [.plain])

/-! Sync-delay (spec/43_sync_delay.md) -/

/-- R161: SYNC_DELAY 0 completes in the step in which it is taken, for every counter value, and changes no cell; Sync
stays Idle. -/
def Obligations.SyncDelayZeroReturnsAtOnce : Prop :=
  ∀ s : State, s.ctx = .main → s.sync = .idle →
    exec (.syncDelay 0) s = .next { s with mainResp := s.mainResp ++ [.done] }

/-- SYNC_DELAY with `0 < offset < PERIOD` is taken: Sync becomes Waiting with the target `(offset + c) mod PERIOD`, which
is `offset + c` below PERIOD and `offset + c - PERIOD` otherwise and is never `c`; nothing else changes (R162; D3, and
`target != c` is an inference of the spec). -/
def Obligations.SyncDelayComputesItsTargetOnce : Prop :=
  ∀ (s : State) (offset : Half), s.ctx = .main → s.sync = .idle → s.cfg.Legal → s.CounterInRange →
    0 < offset.toNat → offset.toNat < s.cfg.period →
    ∃ target : Half, exec (.syncDelay offset) s = .next { s with sync := .waiting target } ∧
      target.toNat = (offset.toNat + s.millis.toNat) % s.cfg.period ∧
      target.toNat = (if offset.toNat + s.millis.toNat < s.cfg.period then offset.toNat + s.millis.toNat
        else offset.toNat + s.millis.toNat - s.cfg.period) ∧
      target ≠ s.millis

/-- A hold ends only by its completion or by reset; nothing else changes Sync from Waiting (R169). The completion comes
in the step of the compare-match event itself that brings the counter to the target: that is R164's sentence the spec
marks as its decision D15, with C13. -/
def Obligations.HoldEndsOnlyAtItsTargetOrByReset : Prop :=
  ∀ (s t : State) (x : Half), s.sync = .waiting x → step s = .next t → t.sync ≠ .waiting x →
    t.sync = .idle ∧
    ((∃ pins ts, s.turns = Turn.compareMatch pins :: ts ∧ t.millis = x ∧ t.mainResp = s.mainResp ++ [.done]) ∨
     ∃ ts, s.turns = .reset :: ts)

/-- A SYNC_DELAY with `0 < offset < PERIOD` holds the main context for exactly `offset` compare-match events, whatever
the counter is and whatever main-context turns fall between: before the `offset`-th event it waits, no word is taken and
nothing is signalled; in the step of that event it completes with the counter at the target (R164, R167, R81,
inferences of the spec; D15, D25). -/
def Obligations.SyncDelayWaitsExactlyOffsetTicks : Prop :=
  ∀ (s : State) (offset : Half) (ws : List CmdWord) (ts rest : List Turn),
    s.cfg.Legal → s.CounterInRange → s.sync = .idle → 0 < offset.toNat → offset.toNat < s.cfg.period →
    s.mainPort = encode (.syncDelay offset) :: ws → (∀ x ∈ ts, x ≠ .reset ∧ x.legal = true) →
    (tickCount ts < offset.toNat →
      ∃ t : State, Host.Core.run Sys2Proof.core (ts.length + 1) { s with turns := .main :: (ts ++ rest) } = .next t ∧
        t.sync = .waiting (BitVec.ofNat 16 ((offset.toNat + s.millis.toNat) % s.cfg.period)) ∧
        t.mainPort = ws ∧ t.mainResp = s.mainResp ∧ t.turns = rest) ∧
    (∀ pins, tickCount ts + 1 = offset.toNat →
      ∃ t : State, Host.Core.run Sys2Proof.core (ts.length + 2)
          { s with turns := .main :: (ts ++ Turn.compareMatch pins :: rest) } = .next t ∧
        t.sync = .idle ∧ t.millis.toNat = (offset.toNat + s.millis.toNat) % s.cfg.period ∧
        t.mainPort = ws ∧ t.mainResp = s.mainResp ++ [.done] ∧ t.turns = rest)

/-! The output latch (spec/44_output_latch.md) -/

/-- R181, bit by bit and pin by pin: a requested bit of the named port takes its value, every other bit of every port is
untouched; the WRITE completes and changes nothing else. -/
def Obligations.WriteSetsExactlyTheRequestedBits : Prop :=
  ∀ (s : State) (port : BitVec 2) (mask value : Byte), s.ctx = .main → s.sync = .idle → port ≠ 3 →
    ∃ q : Ports, exec (.write port mask value) s = .next { s with
        ports := q, mainResp := s.mainResp ++ [.done] } ∧
      ∀ (j : PortIdx) (b : Nat), ({ s with ports := q } : State).pinLevel j b =
        if portOfIndex port = some j ∧ mask.getLsbD b then value.getLsbD b else s.pinLevel j b

/-- The same WRITE done twice leaves the ports the first one left, and two WRITEs to one port with disjoint masks commute
(R182, inferences of the spec). -/
def Obligations.WritesAreIdempotentAndCommute : Prop :=
  (∀ (s t u : State) (port : BitVec 2) (mask value : Byte),
    exec (.write port mask value) s = .next t → exec (.write port mask value) t = .next u → u.ports = t.ports) ∧
  (∀ (s t u t' u' : State) (port : BitVec 2) (mask value mask' value' : Byte), mask &&& mask' = 0 →
    exec (.write port mask value) s = .next t → exec (.write port mask' value') t = .next u →
    exec (.write port mask' value') s = .next t' → exec (.write port mask value) t' = .next u' →
    u.ports = u'.ports)

/-- A WRITE and a compare-match event may come in either order: both orders end in the same state, so no tick disturbs
the read-modify-write (R183, R59, R206, inferences of the spec). -/
def Obligations.WriteAndTickCommute : Prop :=
  ∀ (s : State) (port : BitVec 2) (mask value pins : Byte) (ws : List CmdWord) (ts : List Turn),
    port ≠ 3 → s.sync = .idle → s.mainPort = encode (.write port mask value) :: ws →
    ∃ t : State,
      Host.Core.run Sys2Proof.core 2 { s with turns := .main :: Turn.compareMatch pins :: ts } = .next t ∧
      Host.Core.run Sys2Proof.core 2 { s with turns := Turn.compareMatch pins :: .main :: ts } = .next t

/-! The two contexts -/

/-- Single-writer rule: an operation of the main context never changes MillisCounter or EventLatch, and one of the
interrupt context changes no cell of the main context, but for the release of a hold (R28, R62; C13; the list of what
the interrupt context writes is an inference of the spec). -/
def Obligations.EachCellHasOneWritingContext : Prop :=
  ∀ (i : Instr) (s t : State), exec i s = .next t →
    (s.ctx = .main → t.millis = s.millis ∧ t.latch = s.latch) ∧
    (s.ctx = .interrupt → t.prev = s.prev ∧ t.param = s.param ∧ t.dir = s.dir ∧ t.ports = s.ports ∧
      (t.sync = s.sync ∨ (s.sync = .waiting t.millis ∧ t.sync = .idle)))

/-- Every operation, and every step, in every state either completes or is refused under one of the four names of the
closed list of R202; nothing is left without a meaning (D16). -/
def Obligations.EveryStepCompletesOrIsRefusedByName : Prop :=
  ∀ (i : Instr) (s : State),
    ((∃ t, exec i s = .next t) ∨
      ∃ r ∈ [Refusal.reservedEncoding, .noSuchPort, .wrongContext, .offsetOutOfContract], exec i s = .refused r) ∧
    ((∃ t, step s = .next t) ∨
      ∃ r ∈ [Refusal.reservedEncoding, .noSuchPort, .wrongContext, .offsetOutOfContract], step s = .refused r)
end

