-- ==== Sys2Proof/Laws/State.lean ====
section
/-! SUPPORT. One lemma per field per writer of Ops.lean, each true by unfolding once, so that no later proof unfolds a
record update. -/

namespace Sys2Proof.Machine

@[simp] theorem State.setMillis_cfg (s : State) (v : Half) : (s.setMillis v).cfg = s.cfg := rfl
@[simp] theorem State.setMillis_millis (s : State) (v : Half) : (s.setMillis v).millis = v := rfl
@[simp] theorem State.setMillis_latch (s : State) (v : Half) : (s.setMillis v).latch = s.latch := rfl
@[simp] theorem State.setMillis_prev (s : State) (v : Half) : (s.setMillis v).prev = s.prev := rfl
@[simp] theorem State.setMillis_param (s : State) (v : Half) : (s.setMillis v).param = s.param := rfl
@[simp] theorem State.setMillis_dir (s : State) (v : Half) : (s.setMillis v).dir = s.dir := rfl
@[simp] theorem State.setMillis_ports (s : State) (v : Half) : (s.setMillis v).ports = s.ports := rfl
@[simp] theorem State.setMillis_sync (s : State) (v : Half) : (s.setMillis v).sync = s.sync := rfl
@[simp] theorem State.setMillis_ctx (s : State) (v : Half) : (s.setMillis v).ctx = s.ctx := rfl
@[simp] theorem State.setMillis_pinIn (s : State) (v : Half) : (s.setMillis v).pinIn = s.pinIn := rfl
@[simp] theorem State.setMillis_mainPort (s : State) (v : Half) : (s.setMillis v).mainPort = s.mainPort := rfl
@[simp] theorem State.setMillis_turns (s : State) (v : Half) : (s.setMillis v).turns = s.turns := rfl
@[simp] theorem State.setMillis_mainResp (s : State) (v : Half) : (s.setMillis v).mainResp = s.mainResp := rfl
@[simp] theorem State.setMillis_irqResp (s : State) (v : Half) : (s.setMillis v).irqResp = s.irqResp := rfl
@[simp] theorem State.setMillis_refreshes (s : State) (v : Half) : (s.setMillis v).refreshes = s.refreshes := rfl
@[simp] theorem State.setMillis_freeIdx (s : State) (v : Half) : (s.setMillis v).freeIdx = s.freeIdx := rfl

@[simp] theorem State.setLatch_cfg (s : State) (v : Byte) : (s.setLatch v).cfg = s.cfg := rfl
@[simp] theorem State.setLatch_millis (s : State) (v : Byte) : (s.setLatch v).millis = s.millis := rfl
@[simp] theorem State.setLatch_latch (s : State) (v : Byte) : (s.setLatch v).latch = v := rfl
@[simp] theorem State.setLatch_prev (s : State) (v : Byte) : (s.setLatch v).prev = s.prev := rfl
@[simp] theorem State.setLatch_param (s : State) (v : Byte) : (s.setLatch v).param = s.param := rfl
@[simp] theorem State.setLatch_dir (s : State) (v : Byte) : (s.setLatch v).dir = s.dir := rfl
@[simp] theorem State.setLatch_ports (s : State) (v : Byte) : (s.setLatch v).ports = s.ports := rfl
@[simp] theorem State.setLatch_sync (s : State) (v : Byte) : (s.setLatch v).sync = s.sync := rfl
@[simp] theorem State.setLatch_ctx (s : State) (v : Byte) : (s.setLatch v).ctx = s.ctx := rfl
@[simp] theorem State.setLatch_pinIn (s : State) (v : Byte) : (s.setLatch v).pinIn = s.pinIn := rfl
@[simp] theorem State.setLatch_mainPort (s : State) (v : Byte) : (s.setLatch v).mainPort = s.mainPort := rfl
@[simp] theorem State.setLatch_turns (s : State) (v : Byte) : (s.setLatch v).turns = s.turns := rfl
@[simp] theorem State.setLatch_mainResp (s : State) (v : Byte) : (s.setLatch v).mainResp = s.mainResp := rfl
@[simp] theorem State.setLatch_irqResp (s : State) (v : Byte) : (s.setLatch v).irqResp = s.irqResp := rfl
@[simp] theorem State.setLatch_refreshes (s : State) (v : Byte) : (s.setLatch v).refreshes = s.refreshes := rfl
@[simp] theorem State.setLatch_freeIdx (s : State) (v : Byte) : (s.setLatch v).freeIdx = s.freeIdx := rfl

@[simp] theorem State.setPrev_cfg (s : State) (v : Byte) : (s.setPrev v).cfg = s.cfg := rfl
@[simp] theorem State.setPrev_millis (s : State) (v : Byte) : (s.setPrev v).millis = s.millis := rfl
@[simp] theorem State.setPrev_latch (s : State) (v : Byte) : (s.setPrev v).latch = s.latch := rfl
@[simp] theorem State.setPrev_prev (s : State) (v : Byte) : (s.setPrev v).prev = v := rfl
@[simp] theorem State.setPrev_param (s : State) (v : Byte) : (s.setPrev v).param = s.param := rfl
@[simp] theorem State.setPrev_dir (s : State) (v : Byte) : (s.setPrev v).dir = s.dir := rfl
@[simp] theorem State.setPrev_ports (s : State) (v : Byte) : (s.setPrev v).ports = s.ports := rfl
@[simp] theorem State.setPrev_sync (s : State) (v : Byte) : (s.setPrev v).sync = s.sync := rfl
@[simp] theorem State.setPrev_ctx (s : State) (v : Byte) : (s.setPrev v).ctx = s.ctx := rfl
@[simp] theorem State.setPrev_pinIn (s : State) (v : Byte) : (s.setPrev v).pinIn = s.pinIn := rfl
@[simp] theorem State.setPrev_mainPort (s : State) (v : Byte) : (s.setPrev v).mainPort = s.mainPort := rfl
@[simp] theorem State.setPrev_turns (s : State) (v : Byte) : (s.setPrev v).turns = s.turns := rfl
@[simp] theorem State.setPrev_mainResp (s : State) (v : Byte) : (s.setPrev v).mainResp = s.mainResp := rfl
@[simp] theorem State.setPrev_irqResp (s : State) (v : Byte) : (s.setPrev v).irqResp = s.irqResp := rfl
@[simp] theorem State.setPrev_refreshes (s : State) (v : Byte) : (s.setPrev v).refreshes = s.refreshes := rfl
@[simp] theorem State.setPrev_freeIdx (s : State) (v : Byte) : (s.setPrev v).freeIdx = s.freeIdx := rfl

@[simp] theorem State.setParam_cfg (s : State) (v : Byte) : (s.setParam v).cfg = s.cfg := rfl
@[simp] theorem State.setParam_millis (s : State) (v : Byte) : (s.setParam v).millis = s.millis := rfl
@[simp] theorem State.setParam_latch (s : State) (v : Byte) : (s.setParam v).latch = s.latch := rfl
@[simp] theorem State.setParam_prev (s : State) (v : Byte) : (s.setParam v).prev = s.prev := rfl
@[simp] theorem State.setParam_param (s : State) (v : Byte) : (s.setParam v).param = v := rfl
@[simp] theorem State.setParam_dir (s : State) (v : Byte) : (s.setParam v).dir = s.dir := rfl
@[simp] theorem State.setParam_ports (s : State) (v : Byte) : (s.setParam v).ports = s.ports := rfl
@[simp] theorem State.setParam_sync (s : State) (v : Byte) : (s.setParam v).sync = s.sync := rfl
@[simp] theorem State.setParam_ctx (s : State) (v : Byte) : (s.setParam v).ctx = s.ctx := rfl
@[simp] theorem State.setParam_pinIn (s : State) (v : Byte) : (s.setParam v).pinIn = s.pinIn := rfl
@[simp] theorem State.setParam_mainPort (s : State) (v : Byte) : (s.setParam v).mainPort = s.mainPort := rfl
@[simp] theorem State.setParam_turns (s : State) (v : Byte) : (s.setParam v).turns = s.turns := rfl
@[simp] theorem State.setParam_mainResp (s : State) (v : Byte) : (s.setParam v).mainResp = s.mainResp := rfl
@[simp] theorem State.setParam_irqResp (s : State) (v : Byte) : (s.setParam v).irqResp = s.irqResp := rfl
@[simp] theorem State.setParam_refreshes (s : State) (v : Byte) : (s.setParam v).refreshes = s.refreshes := rfl
@[simp] theorem State.setParam_freeIdx (s : State) (v : Byte) : (s.setParam v).freeIdx = s.freeIdx := rfl

@[simp] theorem State.setDir_cfg (s : State) (v : BitVec 1) : (s.setDir v).cfg = s.cfg := rfl
@[simp] theorem State.setDir_millis (s : State) (v : BitVec 1) : (s.setDir v).millis = s.millis := rfl
@[simp] theorem State.setDir_latch (s : State) (v : BitVec 1) : (s.setDir v).latch = s.latch := rfl
@[simp] theorem State.setDir_prev (s : State) (v : BitVec 1) : (s.setDir v).prev = s.prev := rfl
@[simp] theorem State.setDir_param (s : State) (v : BitVec 1) : (s.setDir v).param = s.param := rfl
@[simp] theorem State.setDir_dir (s : State) (v : BitVec 1) : (s.setDir v).dir = v := rfl
@[simp] theorem State.setDir_ports (s : State) (v : BitVec 1) : (s.setDir v).ports = s.ports := rfl
@[simp] theorem State.setDir_sync (s : State) (v : BitVec 1) : (s.setDir v).sync = s.sync := rfl
@[simp] theorem State.setDir_ctx (s : State) (v : BitVec 1) : (s.setDir v).ctx = s.ctx := rfl
@[simp] theorem State.setDir_pinIn (s : State) (v : BitVec 1) : (s.setDir v).pinIn = s.pinIn := rfl
@[simp] theorem State.setDir_mainPort (s : State) (v : BitVec 1) : (s.setDir v).mainPort = s.mainPort := rfl
@[simp] theorem State.setDir_turns (s : State) (v : BitVec 1) : (s.setDir v).turns = s.turns := rfl
@[simp] theorem State.setDir_mainResp (s : State) (v : BitVec 1) : (s.setDir v).mainResp = s.mainResp := rfl
@[simp] theorem State.setDir_irqResp (s : State) (v : BitVec 1) : (s.setDir v).irqResp = s.irqResp := rfl
@[simp] theorem State.setDir_refreshes (s : State) (v : BitVec 1) : (s.setDir v).refreshes = s.refreshes := rfl
@[simp] theorem State.setDir_freeIdx (s : State) (v : BitVec 1) : (s.setDir v).freeIdx = s.freeIdx := rfl

@[simp] theorem State.setPorts_cfg (s : State) (v : Ports) : (s.setPorts v).cfg = s.cfg := rfl
@[simp] theorem State.setPorts_millis (s : State) (v : Ports) : (s.setPorts v).millis = s.millis := rfl
@[simp] theorem State.setPorts_latch (s : State) (v : Ports) : (s.setPorts v).latch = s.latch := rfl
@[simp] theorem State.setPorts_prev (s : State) (v : Ports) : (s.setPorts v).prev = s.prev := rfl
@[simp] theorem State.setPorts_param (s : State) (v : Ports) : (s.setPorts v).param = s.param := rfl
@[simp] theorem State.setPorts_dir (s : State) (v : Ports) : (s.setPorts v).dir = s.dir := rfl
@[simp] theorem State.setPorts_ports (s : State) (v : Ports) : (s.setPorts v).ports = v := rfl
@[simp] theorem State.setPorts_sync (s : State) (v : Ports) : (s.setPorts v).sync = s.sync := rfl
@[simp] theorem State.setPorts_ctx (s : State) (v : Ports) : (s.setPorts v).ctx = s.ctx := rfl
@[simp] theorem State.setPorts_pinIn (s : State) (v : Ports) : (s.setPorts v).pinIn = s.pinIn := rfl
@[simp] theorem State.setPorts_mainPort (s : State) (v : Ports) : (s.setPorts v).mainPort = s.mainPort := rfl
@[simp] theorem State.setPorts_turns (s : State) (v : Ports) : (s.setPorts v).turns = s.turns := rfl
@[simp] theorem State.setPorts_mainResp (s : State) (v : Ports) : (s.setPorts v).mainResp = s.mainResp := rfl
@[simp] theorem State.setPorts_irqResp (s : State) (v : Ports) : (s.setPorts v).irqResp = s.irqResp := rfl
@[simp] theorem State.setPorts_refreshes (s : State) (v : Ports) : (s.setPorts v).refreshes = s.refreshes := rfl
@[simp] theorem State.setPorts_freeIdx (s : State) (v : Ports) : (s.setPorts v).freeIdx = s.freeIdx := rfl

@[simp] theorem State.setSync_cfg (s : State) (v : Sync) : (s.setSync v).cfg = s.cfg := rfl
@[simp] theorem State.setSync_millis (s : State) (v : Sync) : (s.setSync v).millis = s.millis := rfl
@[simp] theorem State.setSync_latch (s : State) (v : Sync) : (s.setSync v).latch = s.latch := rfl
@[simp] theorem State.setSync_prev (s : State) (v : Sync) : (s.setSync v).prev = s.prev := rfl
@[simp] theorem State.setSync_param (s : State) (v : Sync) : (s.setSync v).param = s.param := rfl
@[simp] theorem State.setSync_dir (s : State) (v : Sync) : (s.setSync v).dir = s.dir := rfl
@[simp] theorem State.setSync_ports (s : State) (v : Sync) : (s.setSync v).ports = s.ports := rfl
@[simp] theorem State.setSync_sync (s : State) (v : Sync) : (s.setSync v).sync = v := rfl
@[simp] theorem State.setSync_ctx (s : State) (v : Sync) : (s.setSync v).ctx = s.ctx := rfl
@[simp] theorem State.setSync_pinIn (s : State) (v : Sync) : (s.setSync v).pinIn = s.pinIn := rfl
@[simp] theorem State.setSync_mainPort (s : State) (v : Sync) : (s.setSync v).mainPort = s.mainPort := rfl
@[simp] theorem State.setSync_turns (s : State) (v : Sync) : (s.setSync v).turns = s.turns := rfl
@[simp] theorem State.setSync_mainResp (s : State) (v : Sync) : (s.setSync v).mainResp = s.mainResp := rfl
@[simp] theorem State.setSync_irqResp (s : State) (v : Sync) : (s.setSync v).irqResp = s.irqResp := rfl
@[simp] theorem State.setSync_refreshes (s : State) (v : Sync) : (s.setSync v).refreshes = s.refreshes := rfl
@[simp] theorem State.setSync_freeIdx (s : State) (v : Sync) : (s.setSync v).freeIdx = s.freeIdx := rfl

@[simp] theorem State.setCtx_cfg (s : State) (v : Ctx) : (s.setCtx v).cfg = s.cfg := rfl
@[simp] theorem State.setCtx_millis (s : State) (v : Ctx) : (s.setCtx v).millis = s.millis := rfl
@[simp] theorem State.setCtx_latch (s : State) (v : Ctx) : (s.setCtx v).latch = s.latch := rfl
@[simp] theorem State.setCtx_prev (s : State) (v : Ctx) : (s.setCtx v).prev = s.prev := rfl
@[simp] theorem State.setCtx_param (s : State) (v : Ctx) : (s.setCtx v).param = s.param := rfl
@[simp] theorem State.setCtx_dir (s : State) (v : Ctx) : (s.setCtx v).dir = s.dir := rfl
@[simp] theorem State.setCtx_ports (s : State) (v : Ctx) : (s.setCtx v).ports = s.ports := rfl
@[simp] theorem State.setCtx_sync (s : State) (v : Ctx) : (s.setCtx v).sync = s.sync := rfl
@[simp] theorem State.setCtx_ctx (s : State) (v : Ctx) : (s.setCtx v).ctx = v := rfl
@[simp] theorem State.setCtx_pinIn (s : State) (v : Ctx) : (s.setCtx v).pinIn = s.pinIn := rfl
@[simp] theorem State.setCtx_mainPort (s : State) (v : Ctx) : (s.setCtx v).mainPort = s.mainPort := rfl
@[simp] theorem State.setCtx_turns (s : State) (v : Ctx) : (s.setCtx v).turns = s.turns := rfl
@[simp] theorem State.setCtx_mainResp (s : State) (v : Ctx) : (s.setCtx v).mainResp = s.mainResp := rfl
@[simp] theorem State.setCtx_irqResp (s : State) (v : Ctx) : (s.setCtx v).irqResp = s.irqResp := rfl
@[simp] theorem State.setCtx_refreshes (s : State) (v : Ctx) : (s.setCtx v).refreshes = s.refreshes := rfl
@[simp] theorem State.setCtx_freeIdx (s : State) (v : Ctx) : (s.setCtx v).freeIdx = s.freeIdx := rfl

@[simp] theorem State.setPinIn_cfg (s : State) (v : Byte) : (s.setPinIn v).cfg = s.cfg := rfl
@[simp] theorem State.setPinIn_millis (s : State) (v : Byte) : (s.setPinIn v).millis = s.millis := rfl
@[simp] theorem State.setPinIn_latch (s : State) (v : Byte) : (s.setPinIn v).latch = s.latch := rfl
@[simp] theorem State.setPinIn_prev (s : State) (v : Byte) : (s.setPinIn v).prev = s.prev := rfl
@[simp] theorem State.setPinIn_param (s : State) (v : Byte) : (s.setPinIn v).param = s.param := rfl
@[simp] theorem State.setPinIn_dir (s : State) (v : Byte) : (s.setPinIn v).dir = s.dir := rfl
@[simp] theorem State.setPinIn_ports (s : State) (v : Byte) : (s.setPinIn v).ports = s.ports := rfl
@[simp] theorem State.setPinIn_sync (s : State) (v : Byte) : (s.setPinIn v).sync = s.sync := rfl
@[simp] theorem State.setPinIn_ctx (s : State) (v : Byte) : (s.setPinIn v).ctx = s.ctx := rfl
@[simp] theorem State.setPinIn_pinIn (s : State) (v : Byte) : (s.setPinIn v).pinIn = v := rfl
@[simp] theorem State.setPinIn_mainPort (s : State) (v : Byte) : (s.setPinIn v).mainPort = s.mainPort := rfl
@[simp] theorem State.setPinIn_turns (s : State) (v : Byte) : (s.setPinIn v).turns = s.turns := rfl
@[simp] theorem State.setPinIn_mainResp (s : State) (v : Byte) : (s.setPinIn v).mainResp = s.mainResp := rfl
@[simp] theorem State.setPinIn_irqResp (s : State) (v : Byte) : (s.setPinIn v).irqResp = s.irqResp := rfl
@[simp] theorem State.setPinIn_refreshes (s : State) (v : Byte) : (s.setPinIn v).refreshes = s.refreshes := rfl
@[simp] theorem State.setPinIn_freeIdx (s : State) (v : Byte) : (s.setPinIn v).freeIdx = s.freeIdx := rfl

@[simp] theorem State.setMainPort_cfg (s : State) (v : List CmdWord) : (s.setMainPort v).cfg = s.cfg := rfl
@[simp] theorem State.setMainPort_millis (s : State) (v : List CmdWord) : (s.setMainPort v).millis = s.millis := rfl
@[simp] theorem State.setMainPort_latch (s : State) (v : List CmdWord) : (s.setMainPort v).latch = s.latch := rfl
@[simp] theorem State.setMainPort_prev (s : State) (v : List CmdWord) : (s.setMainPort v).prev = s.prev := rfl
@[simp] theorem State.setMainPort_param (s : State) (v : List CmdWord) : (s.setMainPort v).param = s.param := rfl
@[simp] theorem State.setMainPort_dir (s : State) (v : List CmdWord) : (s.setMainPort v).dir = s.dir := rfl
@[simp] theorem State.setMainPort_ports (s : State) (v : List CmdWord) : (s.setMainPort v).ports = s.ports := rfl
@[simp] theorem State.setMainPort_sync (s : State) (v : List CmdWord) : (s.setMainPort v).sync = s.sync := rfl
@[simp] theorem State.setMainPort_ctx (s : State) (v : List CmdWord) : (s.setMainPort v).ctx = s.ctx := rfl
@[simp] theorem State.setMainPort_pinIn (s : State) (v : List CmdWord) : (s.setMainPort v).pinIn = s.pinIn := rfl
@[simp] theorem State.setMainPort_mainPort (s : State) (v : List CmdWord) : (s.setMainPort v).mainPort = v := rfl
@[simp] theorem State.setMainPort_turns (s : State) (v : List CmdWord) : (s.setMainPort v).turns = s.turns := rfl
@[simp] theorem State.setMainPort_mainResp (s : State) (v : List CmdWord) : (s.setMainPort v).mainResp = s.mainResp := rfl
@[simp] theorem State.setMainPort_irqResp (s : State) (v : List CmdWord) : (s.setMainPort v).irqResp = s.irqResp := rfl
@[simp] theorem State.setMainPort_refreshes (s : State) (v : List CmdWord) : (s.setMainPort v).refreshes = s.refreshes := rfl
@[simp] theorem State.setMainPort_freeIdx (s : State) (v : List CmdWord) : (s.setMainPort v).freeIdx = s.freeIdx := rfl

@[simp] theorem State.setTurns_cfg (s : State) (v : List Turn) : (s.setTurns v).cfg = s.cfg := rfl
@[simp] theorem State.setTurns_millis (s : State) (v : List Turn) : (s.setTurns v).millis = s.millis := rfl
@[simp] theorem State.setTurns_latch (s : State) (v : List Turn) : (s.setTurns v).latch = s.latch := rfl
@[simp] theorem State.setTurns_prev (s : State) (v : List Turn) : (s.setTurns v).prev = s.prev := rfl
@[simp] theorem State.setTurns_param (s : State) (v : List Turn) : (s.setTurns v).param = s.param := rfl
@[simp] theorem State.setTurns_dir (s : State) (v : List Turn) : (s.setTurns v).dir = s.dir := rfl
@[simp] theorem State.setTurns_ports (s : State) (v : List Turn) : (s.setTurns v).ports = s.ports := rfl
@[simp] theorem State.setTurns_sync (s : State) (v : List Turn) : (s.setTurns v).sync = s.sync := rfl
@[simp] theorem State.setTurns_ctx (s : State) (v : List Turn) : (s.setTurns v).ctx = s.ctx := rfl
@[simp] theorem State.setTurns_pinIn (s : State) (v : List Turn) : (s.setTurns v).pinIn = s.pinIn := rfl
@[simp] theorem State.setTurns_mainPort (s : State) (v : List Turn) : (s.setTurns v).mainPort = s.mainPort := rfl
@[simp] theorem State.setTurns_turns (s : State) (v : List Turn) : (s.setTurns v).turns = v := rfl
@[simp] theorem State.setTurns_mainResp (s : State) (v : List Turn) : (s.setTurns v).mainResp = s.mainResp := rfl
@[simp] theorem State.setTurns_irqResp (s : State) (v : List Turn) : (s.setTurns v).irqResp = s.irqResp := rfl
@[simp] theorem State.setTurns_refreshes (s : State) (v : List Turn) : (s.setTurns v).refreshes = s.refreshes := rfl
@[simp] theorem State.setTurns_freeIdx (s : State) (v : List Turn) : (s.setTurns v).freeIdx = s.freeIdx := rfl

@[simp] theorem State.pushMainResp_cfg (s : State) (r : Response) : (s.pushMainResp r).cfg = s.cfg := rfl
@[simp] theorem State.pushMainResp_millis (s : State) (r : Response) : (s.pushMainResp r).millis = s.millis := rfl
@[simp] theorem State.pushMainResp_latch (s : State) (r : Response) : (s.pushMainResp r).latch = s.latch := rfl
@[simp] theorem State.pushMainResp_prev (s : State) (r : Response) : (s.pushMainResp r).prev = s.prev := rfl
@[simp] theorem State.pushMainResp_param (s : State) (r : Response) : (s.pushMainResp r).param = s.param := rfl
@[simp] theorem State.pushMainResp_dir (s : State) (r : Response) : (s.pushMainResp r).dir = s.dir := rfl
@[simp] theorem State.pushMainResp_ports (s : State) (r : Response) : (s.pushMainResp r).ports = s.ports := rfl
@[simp] theorem State.pushMainResp_sync (s : State) (r : Response) : (s.pushMainResp r).sync = s.sync := rfl
@[simp] theorem State.pushMainResp_ctx (s : State) (r : Response) : (s.pushMainResp r).ctx = s.ctx := rfl
@[simp] theorem State.pushMainResp_pinIn (s : State) (r : Response) : (s.pushMainResp r).pinIn = s.pinIn := rfl
@[simp] theorem State.pushMainResp_mainPort (s : State) (r : Response) : (s.pushMainResp r).mainPort = s.mainPort := rfl
@[simp] theorem State.pushMainResp_turns (s : State) (r : Response) : (s.pushMainResp r).turns = s.turns := rfl
@[simp] theorem State.pushMainResp_mainResp (s : State) (r : Response) : (s.pushMainResp r).mainResp = s.mainResp ++ [r] := rfl
@[simp] theorem State.pushMainResp_irqResp (s : State) (r : Response) : (s.pushMainResp r).irqResp = s.irqResp := rfl
@[simp] theorem State.pushMainResp_refreshes (s : State) (r : Response) : (s.pushMainResp r).refreshes = s.refreshes := rfl
@[simp] theorem State.pushMainResp_freeIdx (s : State) (r : Response) : (s.pushMainResp r).freeIdx = s.freeIdx := rfl

@[simp] theorem State.pushIrqResp_cfg (s : State) (r : Response) : (s.pushIrqResp r).cfg = s.cfg := rfl
@[simp] theorem State.pushIrqResp_millis (s : State) (r : Response) : (s.pushIrqResp r).millis = s.millis := rfl
@[simp] theorem State.pushIrqResp_latch (s : State) (r : Response) : (s.pushIrqResp r).latch = s.latch := rfl
@[simp] theorem State.pushIrqResp_prev (s : State) (r : Response) : (s.pushIrqResp r).prev = s.prev := rfl
@[simp] theorem State.pushIrqResp_param (s : State) (r : Response) : (s.pushIrqResp r).param = s.param := rfl
@[simp] theorem State.pushIrqResp_dir (s : State) (r : Response) : (s.pushIrqResp r).dir = s.dir := rfl
@[simp] theorem State.pushIrqResp_ports (s : State) (r : Response) : (s.pushIrqResp r).ports = s.ports := rfl
@[simp] theorem State.pushIrqResp_sync (s : State) (r : Response) : (s.pushIrqResp r).sync = s.sync := rfl
@[simp] theorem State.pushIrqResp_ctx (s : State) (r : Response) : (s.pushIrqResp r).ctx = s.ctx := rfl
@[simp] theorem State.pushIrqResp_pinIn (s : State) (r : Response) : (s.pushIrqResp r).pinIn = s.pinIn := rfl
@[simp] theorem State.pushIrqResp_mainPort (s : State) (r : Response) : (s.pushIrqResp r).mainPort = s.mainPort := rfl
@[simp] theorem State.pushIrqResp_turns (s : State) (r : Response) : (s.pushIrqResp r).turns = s.turns := rfl
@[simp] theorem State.pushIrqResp_mainResp (s : State) (r : Response) : (s.pushIrqResp r).mainResp = s.mainResp := rfl
@[simp] theorem State.pushIrqResp_irqResp (s : State) (r : Response) : (s.pushIrqResp r).irqResp = s.irqResp ++ [r] := rfl
@[simp] theorem State.pushIrqResp_refreshes (s : State) (r : Response) : (s.pushIrqResp r).refreshes = s.refreshes := rfl
@[simp] theorem State.pushIrqResp_freeIdx (s : State) (r : Response) : (s.pushIrqResp r).freeIdx = s.freeIdx := rfl

@[simp] theorem State.pushRefresh_cfg (s : State) (e : Refresh) : (s.pushRefresh e).cfg = s.cfg := rfl
@[simp] theorem State.pushRefresh_millis (s : State) (e : Refresh) : (s.pushRefresh e).millis = s.millis := rfl
@[simp] theorem State.pushRefresh_latch (s : State) (e : Refresh) : (s.pushRefresh e).latch = s.latch := rfl
@[simp] theorem State.pushRefresh_prev (s : State) (e : Refresh) : (s.pushRefresh e).prev = s.prev := rfl
@[simp] theorem State.pushRefresh_param (s : State) (e : Refresh) : (s.pushRefresh e).param = s.param := rfl
@[simp] theorem State.pushRefresh_dir (s : State) (e : Refresh) : (s.pushRefresh e).dir = s.dir := rfl
@[simp] theorem State.pushRefresh_ports (s : State) (e : Refresh) : (s.pushRefresh e).ports = s.ports := rfl
@[simp] theorem State.pushRefresh_sync (s : State) (e : Refresh) : (s.pushRefresh e).sync = s.sync := rfl
@[simp] theorem State.pushRefresh_ctx (s : State) (e : Refresh) : (s.pushRefresh e).ctx = s.ctx := rfl
@[simp] theorem State.pushRefresh_pinIn (s : State) (e : Refresh) : (s.pushRefresh e).pinIn = s.pinIn := rfl
@[simp] theorem State.pushRefresh_mainPort (s : State) (e : Refresh) : (s.pushRefresh e).mainPort = s.mainPort := rfl
@[simp] theorem State.pushRefresh_turns (s : State) (e : Refresh) : (s.pushRefresh e).turns = s.turns := rfl
@[simp] theorem State.pushRefresh_mainResp (s : State) (e : Refresh) : (s.pushRefresh e).mainResp = s.mainResp := rfl
@[simp] theorem State.pushRefresh_irqResp (s : State) (e : Refresh) : (s.pushRefresh e).irqResp = s.irqResp := rfl
@[simp] theorem State.pushRefresh_refreshes (s : State) (e : Refresh) : (s.pushRefresh e).refreshes = s.refreshes ++ [e] := rfl
@[simp] theorem State.pushRefresh_freeIdx (s : State) (e : Refresh) : (s.pushRefresh e).freeIdx = s.freeIdx := rfl

@[simp] theorem State.bumpFree_cfg (s : State) : s.bumpFree.cfg = s.cfg := rfl
@[simp] theorem State.bumpFree_millis (s : State) : s.bumpFree.millis = s.millis := rfl
@[simp] theorem State.bumpFree_latch (s : State) : s.bumpFree.latch = s.latch := rfl
@[simp] theorem State.bumpFree_prev (s : State) : s.bumpFree.prev = s.prev := rfl
@[simp] theorem State.bumpFree_param (s : State) : s.bumpFree.param = s.param := rfl
@[simp] theorem State.bumpFree_dir (s : State) : s.bumpFree.dir = s.dir := rfl
@[simp] theorem State.bumpFree_ports (s : State) : s.bumpFree.ports = s.ports := rfl
@[simp] theorem State.bumpFree_sync (s : State) : s.bumpFree.sync = s.sync := rfl
@[simp] theorem State.bumpFree_ctx (s : State) : s.bumpFree.ctx = s.ctx := rfl
@[simp] theorem State.bumpFree_pinIn (s : State) : s.bumpFree.pinIn = s.pinIn := rfl
@[simp] theorem State.bumpFree_mainPort (s : State) : s.bumpFree.mainPort = s.mainPort := rfl
@[simp] theorem State.bumpFree_turns (s : State) : s.bumpFree.turns = s.turns := rfl
@[simp] theorem State.bumpFree_mainResp (s : State) : s.bumpFree.mainResp = s.mainResp := rfl
@[simp] theorem State.bumpFree_irqResp (s : State) : s.bumpFree.irqResp = s.irqResp := rfl
@[simp] theorem State.bumpFree_refreshes (s : State) : s.bumpFree.refreshes = s.refreshes := rfl
@[simp] theorem State.bumpFree_freeIdx (s : State) : s.bumpFree.freeIdx = s.freeIdx + 1 := rfl

@[simp] theorem State.takeInterrupt_cfg (s : State) (pins : Byte) :
    (s.takeInterrupt pins).cfg = s.cfg := rfl
@[simp] theorem State.takeInterrupt_millis (s : State) (pins : Byte) :
    (s.takeInterrupt pins).millis = s.millis := rfl
@[simp] theorem State.takeInterrupt_latch (s : State) (pins : Byte) :
    (s.takeInterrupt pins).latch = s.latch := rfl
@[simp] theorem State.takeInterrupt_prev (s : State) (pins : Byte) :
    (s.takeInterrupt pins).prev = s.prev := rfl
@[simp] theorem State.takeInterrupt_param (s : State) (pins : Byte) :
    (s.takeInterrupt pins).param = s.param := rfl
@[simp] theorem State.takeInterrupt_dir (s : State) (pins : Byte) :
    (s.takeInterrupt pins).dir = s.dir := rfl
@[simp] theorem State.takeInterrupt_ports (s : State) (pins : Byte) :
    (s.takeInterrupt pins).ports = s.ports := rfl
@[simp] theorem State.takeInterrupt_sync (s : State) (pins : Byte) :
    (s.takeInterrupt pins).sync = s.sync := rfl
@[simp] theorem State.takeInterrupt_ctx (s : State) (pins : Byte) :
    (s.takeInterrupt pins).ctx = .interrupt := rfl
@[simp] theorem State.takeInterrupt_pinIn (s : State) (pins : Byte) :
    (s.takeInterrupt pins).pinIn = pins := rfl
@[simp] theorem State.takeInterrupt_mainPort (s : State) (pins : Byte) :
    (s.takeInterrupt pins).mainPort = s.mainPort := rfl
@[simp] theorem State.takeInterrupt_turns (s : State) (pins : Byte) :
    (s.takeInterrupt pins).turns = s.turns := rfl
@[simp] theorem State.takeInterrupt_mainResp (s : State) (pins : Byte) :
    (s.takeInterrupt pins).mainResp = s.mainResp := rfl
@[simp] theorem State.takeInterrupt_irqResp (s : State) (pins : Byte) :
    (s.takeInterrupt pins).irqResp = s.irqResp := rfl
@[simp] theorem State.takeInterrupt_refreshes (s : State) (pins : Byte) :
    (s.takeInterrupt pins).refreshes = s.refreshes := rfl
@[simp] theorem State.takeInterrupt_freeIdx (s : State) (pins : Byte) :
    (s.takeInterrupt pins).freeIdx = s.freeIdx := rfl

@[simp] theorem State.returnFromInterrupt_cfg (s : State) :
    s.returnFromInterrupt.cfg = s.cfg := rfl
@[simp] theorem State.returnFromInterrupt_millis (s : State) :
    s.returnFromInterrupt.millis = s.millis := rfl
@[simp] theorem State.returnFromInterrupt_latch (s : State) :
    s.returnFromInterrupt.latch = s.latch := rfl
@[simp] theorem State.returnFromInterrupt_prev (s : State) :
    s.returnFromInterrupt.prev = s.prev := rfl
@[simp] theorem State.returnFromInterrupt_param (s : State) :
    s.returnFromInterrupt.param = s.param := rfl
@[simp] theorem State.returnFromInterrupt_dir (s : State) :
    s.returnFromInterrupt.dir = s.dir := rfl
@[simp] theorem State.returnFromInterrupt_ports (s : State) :
    s.returnFromInterrupt.ports = s.ports := rfl
@[simp] theorem State.returnFromInterrupt_sync (s : State) :
    s.returnFromInterrupt.sync = s.sync := rfl
@[simp] theorem State.returnFromInterrupt_ctx (s : State) :
    s.returnFromInterrupt.ctx = .main := rfl
@[simp] theorem State.returnFromInterrupt_pinIn (s : State) :
    s.returnFromInterrupt.pinIn = s.pinIn := rfl
@[simp] theorem State.returnFromInterrupt_mainPort (s : State) :
    s.returnFromInterrupt.mainPort = s.mainPort := rfl
@[simp] theorem State.returnFromInterrupt_turns (s : State) :
    s.returnFromInterrupt.turns = s.turns := rfl
@[simp] theorem State.returnFromInterrupt_mainResp (s : State) :
    s.returnFromInterrupt.mainResp = s.mainResp := rfl
@[simp] theorem State.returnFromInterrupt_irqResp (s : State) :
    s.returnFromInterrupt.irqResp = s.irqResp := rfl
@[simp] theorem State.returnFromInterrupt_refreshes (s : State) :
    s.returnFromInterrupt.refreshes = s.refreshes := rfl
@[simp] theorem State.returnFromInterrupt_freeIdx (s : State) :
    s.returnFromInterrupt.freeIdx = s.freeIdx := rfl

@[simp] theorem State.publishEvent_cfg (s : State) (imm8 : Byte) :
    (s.publishEvent imm8).cfg = s.cfg := rfl
@[simp] theorem State.publishEvent_millis (s : State) (imm8 : Byte) :
    (s.publishEvent imm8).millis = s.millis := rfl
@[simp] theorem State.publishEvent_latch (s : State) (imm8 : Byte) :
    (s.publishEvent imm8).latch = imm8 := rfl
@[simp] theorem State.publishEvent_prev (s : State) (imm8 : Byte) :
    (s.publishEvent imm8).prev = s.prev := rfl
@[simp] theorem State.publishEvent_param (s : State) (imm8 : Byte) :
    (s.publishEvent imm8).param = s.param := rfl
@[simp] theorem State.publishEvent_dir (s : State) (imm8 : Byte) :
    (s.publishEvent imm8).dir = s.dir := rfl
@[simp] theorem State.publishEvent_ports (s : State) (imm8 : Byte) :
    (s.publishEvent imm8).ports = s.ports := rfl
@[simp] theorem State.publishEvent_sync (s : State) (imm8 : Byte) :
    (s.publishEvent imm8).sync = s.sync := rfl
@[simp] theorem State.publishEvent_ctx (s : State) (imm8 : Byte) :
    (s.publishEvent imm8).ctx = s.ctx := rfl
@[simp] theorem State.publishEvent_pinIn (s : State) (imm8 : Byte) :
    (s.publishEvent imm8).pinIn = s.pinIn := rfl
@[simp] theorem State.publishEvent_mainPort (s : State) (imm8 : Byte) :
    (s.publishEvent imm8).mainPort = s.mainPort := rfl
@[simp] theorem State.publishEvent_turns (s : State) (imm8 : Byte) :
    (s.publishEvent imm8).turns = s.turns := rfl
@[simp] theorem State.publishEvent_mainResp (s : State) (imm8 : Byte) :
    (s.publishEvent imm8).mainResp = s.mainResp := rfl
@[simp] theorem State.publishEvent_irqResp (s : State) (imm8 : Byte) :
    (s.publishEvent imm8).irqResp = s.irqResp := rfl
@[simp] theorem State.publishEvent_refreshes (s : State) (imm8 : Byte) :
    (s.publishEvent imm8).refreshes = s.refreshes := rfl
@[simp] theorem State.publishEvent_freeIdx (s : State) (imm8 : Byte) :
    (s.publishEvent imm8).freeIdx = s.freeIdx := rfl

@[simp] theorem State.applyReset_cfg (s : State) :
    s.applyReset.cfg = s.cfg := rfl
@[simp] theorem State.applyReset_millis (s : State) :
    s.applyReset.millis = 0 := rfl
@[simp] theorem State.applyReset_latch (s : State) :
    s.applyReset.latch = 0 := rfl
@[simp] theorem State.applyReset_prev (s : State) :
    s.applyReset.prev = 0 := rfl
@[simp] theorem State.applyReset_param (s : State) :
    s.applyReset.param = s.cfg.paramInit := rfl
@[simp] theorem State.applyReset_dir (s : State) :
    s.applyReset.dir = 0 := rfl
@[simp] theorem State.applyReset_ports (s : State) :
    s.applyReset.ports = { p0 := 0, p1 := 0, p2 := 0 } := rfl
@[simp] theorem State.applyReset_sync (s : State) :
    s.applyReset.sync = .idle := rfl
@[simp] theorem State.applyReset_ctx (s : State) :
    s.applyReset.ctx = .main := rfl
@[simp] theorem State.applyReset_pinIn (s : State) :
    s.applyReset.pinIn = s.pinIn := rfl
@[simp] theorem State.applyReset_mainPort (s : State) :
    s.applyReset.mainPort = s.mainPort := rfl
@[simp] theorem State.applyReset_turns (s : State) :
    s.applyReset.turns = s.turns := rfl
@[simp] theorem State.applyReset_mainResp (s : State) :
    s.applyReset.mainResp = [] := rfl
@[simp] theorem State.applyReset_irqResp (s : State) :
    s.applyReset.irqResp = [] := rfl
@[simp] theorem State.applyReset_refreshes (s : State) :
    s.applyReset.refreshes = [] := rfl
@[simp] theorem State.applyReset_freeIdx (s : State) :
    s.applyReset.freeIdx = s.freeIdx := rfl

@[simp] theorem State.writePort_cfg (s : State) (i : PortIdx) (mask value : Byte) :
    (s.writePort i mask value).cfg = s.cfg := rfl
@[simp] theorem State.writePort_millis (s : State) (i : PortIdx) (mask value : Byte) :
    (s.writePort i mask value).millis = s.millis := rfl
@[simp] theorem State.writePort_latch (s : State) (i : PortIdx) (mask value : Byte) :
    (s.writePort i mask value).latch = s.latch := rfl
@[simp] theorem State.writePort_prev (s : State) (i : PortIdx) (mask value : Byte) :
    (s.writePort i mask value).prev = s.prev := rfl
@[simp] theorem State.writePort_param (s : State) (i : PortIdx) (mask value : Byte) :
    (s.writePort i mask value).param = s.param := rfl
@[simp] theorem State.writePort_dir (s : State) (i : PortIdx) (mask value : Byte) :
    (s.writePort i mask value).dir = s.dir := rfl
@[simp] theorem State.writePort_ports (s : State) (i : PortIdx) (mask value : Byte) :
    (s.writePort i mask value).ports = s.ports.set i (maskedWrite (s.ports.get i) mask value) := rfl
@[simp] theorem State.writePort_sync (s : State) (i : PortIdx) (mask value : Byte) :
    (s.writePort i mask value).sync = s.sync := rfl
@[simp] theorem State.writePort_ctx (s : State) (i : PortIdx) (mask value : Byte) :
    (s.writePort i mask value).ctx = s.ctx := rfl
@[simp] theorem State.writePort_pinIn (s : State) (i : PortIdx) (mask value : Byte) :
    (s.writePort i mask value).pinIn = s.pinIn := rfl
@[simp] theorem State.writePort_mainPort (s : State) (i : PortIdx) (mask value : Byte) :
    (s.writePort i mask value).mainPort = s.mainPort := rfl
@[simp] theorem State.writePort_turns (s : State) (i : PortIdx) (mask value : Byte) :
    (s.writePort i mask value).turns = s.turns := rfl
@[simp] theorem State.writePort_mainResp (s : State) (i : PortIdx) (mask value : Byte) :
    (s.writePort i mask value).mainResp = s.mainResp := rfl
@[simp] theorem State.writePort_irqResp (s : State) (i : PortIdx) (mask value : Byte) :
    (s.writePort i mask value).irqResp = s.irqResp := rfl
@[simp] theorem State.writePort_refreshes (s : State) (i : PortIdx) (mask value : Byte) :
    (s.writePort i mask value).refreshes = s.refreshes := rfl
@[simp] theorem State.writePort_freeIdx (s : State) (i : PortIdx) (mask value : Byte) :
    (s.writePort i mask value).freeIdx = s.freeIdx := rfl

end Sys2Proof.Machine
end

