-- ==== Sys2Proof/Laws/Ops.lean ====
section
/-! SUPPORT. One lemma per shared operation that says once everything it can do; later proofs cite it and do not
unfold the operation. -/

namespace Sys2Proof.Machine

/-! Responses -/

theorem Ctx.main_or_interrupt (c : Ctx) : c = .main ∨ c = .interrupt := by
  cases c <;> simp

theorem State.respond_main {s : State} (h : s.ctx = .main) (r : Response) :
    s.respond r = { s with mainResp := s.mainResp ++ [r] } := by
  simp [State.respond, h, State.pushMainResp]

theorem State.respond_interrupt {s : State} (h : s.ctx = .interrupt) (r : Response) :
    s.respond r = { s with irqResp := s.irqResp ++ [r] } := by
  simp [State.respond, h, State.pushIrqResp]

/-- A response touches nothing but the response list of the issuing context. -/
theorem State.respond_frame (s : State) (r : Response) :
    ∃ m q, s.respond r = { s with mainResp := m, irqResp := q } := by
  rcases Ctx.main_or_interrupt s.ctx with h | h
  · exact ⟨_, _, State.respond_main h r⟩
  · exact ⟨_, _, State.respond_interrupt h r⟩

@[simp] theorem State.respond_cfg (s : State) (r : Response) : (s.respond r).cfg = s.cfg := by
  obtain ⟨_, _, h⟩ := s.respond_frame r; rw [h]
@[simp] theorem State.respond_millis (s : State) (r : Response) : (s.respond r).millis = s.millis := by
  obtain ⟨_, _, h⟩ := s.respond_frame r; rw [h]
@[simp] theorem State.respond_latch (s : State) (r : Response) : (s.respond r).latch = s.latch := by
  obtain ⟨_, _, h⟩ := s.respond_frame r; rw [h]
@[simp] theorem State.respond_prev (s : State) (r : Response) : (s.respond r).prev = s.prev := by
  obtain ⟨_, _, h⟩ := s.respond_frame r; rw [h]
@[simp] theorem State.respond_param (s : State) (r : Response) : (s.respond r).param = s.param := by
  obtain ⟨_, _, h⟩ := s.respond_frame r; rw [h]
@[simp] theorem State.respond_dir (s : State) (r : Response) : (s.respond r).dir = s.dir := by
  obtain ⟨_, _, h⟩ := s.respond_frame r; rw [h]
@[simp] theorem State.respond_ports (s : State) (r : Response) : (s.respond r).ports = s.ports := by
  obtain ⟨_, _, h⟩ := s.respond_frame r; rw [h]
@[simp] theorem State.respond_sync (s : State) (r : Response) : (s.respond r).sync = s.sync := by
  obtain ⟨_, _, h⟩ := s.respond_frame r; rw [h]
@[simp] theorem State.respond_ctx (s : State) (r : Response) : (s.respond r).ctx = s.ctx := by
  obtain ⟨_, _, h⟩ := s.respond_frame r; rw [h]
@[simp] theorem State.respond_pinIn (s : State) (r : Response) : (s.respond r).pinIn = s.pinIn := by
  obtain ⟨_, _, h⟩ := s.respond_frame r; rw [h]
@[simp] theorem State.respond_mainPort (s : State) (r : Response) : (s.respond r).mainPort = s.mainPort := by
  obtain ⟨_, _, h⟩ := s.respond_frame r; rw [h]
@[simp] theorem State.respond_turns (s : State) (r : Response) : (s.respond r).turns = s.turns := by
  obtain ⟨_, _, h⟩ := s.respond_frame r; rw [h]
@[simp] theorem State.respond_refreshes (s : State) (r : Response) : (s.respond r).refreshes = s.refreshes := by
  obtain ⟨_, _, h⟩ := s.respond_frame r; rw [h]
@[simp] theorem State.respond_freeIdx (s : State) (r : Response) : (s.respond r).freeIdx = s.freeIdx := by
  obtain ⟨_, _, h⟩ := s.respond_frame r; rw [h]

/-! Ports -/

@[simp] theorem Ports.get_set_same (p : Ports) (i : PortIdx) (v : Byte) : (p.set i v).get i = v := by
  cases i <;> rfl

theorem Ports.get_set_other (p : Ports) {i j : PortIdx} (h : j ≠ i) (v : Byte) :
    (p.set i v).get j = p.get j := by
  cases i <;> cases j <;> first | rfl | exact absurd rfl h

@[simp] theorem Ports.set_set (p : Ports) (i : PortIdx) (v w : Byte) : (p.set i v).set i w = p.set i w := by
  cases i <;> rfl

/-- A masked write, bit by bit (R181). -/
theorem maskedWrite_getLsbD (old mask value : Byte) (b : Nat) :
    (maskedWrite old mask value).getLsbD b =
      if mask.getLsbD b then value.getLsbD b else old.getLsbD b := by
  simp only [maskedWrite, BitVec.getLsbD_or, BitVec.getLsbD_and, BitVec.getLsbD_not]
  by_cases hb : b < 8
  · cases mask.getLsbD b <;> simp [hb]
  · have := BitVec.getLsbD_of_ge mask b (by omega)
    have := BitVec.getLsbD_of_ge old b (by omega)
    simp_all

/-- The port an index names exists exactly for the indices 0, 1, 2 (R51). -/
theorem portOfIndex_cases (port : BitVec 2) :
    (port = 3 ∧ portOfIndex port = none) ∨ (port ≠ 3 ∧ ∃ i, portOfIndex port = some i) := by
  have h : ∀ p : BitVec 2, (p = 3 ∧ portOfIndex p = none) ∨ (p ≠ 3 ∧ portOfIndex p ≠ none) := by decide
  exact (h port).imp_right (And.imp_right Option.ne_none_iff_exists'.mp)

/-! Wait target -/

/-- In a legal build the 16-bit target is the mathematical one (R162). -/
theorem waitTarget_toNat {c : Config} (h : c.Legal) (offset millis : Half) :
    (waitTarget c offset millis).toNat = (offset.toNat + millis.toNat) % c.period := by
  have h2 := h.1
  have h3 := h.2.1
  have := Nat.mod_lt (offset.toNat + millis.toNat) (show c.period > 0 by omega)
  simp only [waitTarget, BitVec.toNat_ofNat]
  exact Nat.mod_eq_of_lt (by omega)

/-! The parts of TICK -/

/-- The counter step touches the counter, and the free-value counter only past 65535. -/
theorem State.advanceCounter_frame (s : State) :
    ∃ m f, s.advanceCounter = { s with millis := m, freeIdx := f } := by
  unfold State.advanceCounter
  split
  · exact ⟨_, _, rfl⟩
  · split
    · exact ⟨_, _, rfl⟩
    · exact ⟨_, _, rfl⟩

/-- The counter step from a counter in range, in a legal build (R101). -/
theorem State.advanceCounter_inRange {s : State} (hl : s.cfg.Legal) (hc : s.millis.toNat < s.cfg.period) :
    s.advanceCounter = s.setMillis (BitVec.ofNat 16 ((s.millis.toNat + 1) % s.cfg.period)) := by
  have h3 := hl.2.1
  unfold State.advanceCounter
  split
  · next h => rw [h, Nat.mod_self]; rfl
  · next h =>
    rw [if_pos (by omega), Nat.mod_eq_of_lt (by omega)]
    congr 1

/-- The release either leaves the state or ends the hold whose target the counter has reached (R164). -/
theorem State.releaseHold_cases (s : State) :
    (s.releaseHold = s ∧ s.sync ≠ .waiting s.millis) ∨
    (s.releaseHold = { s with sync := .idle, mainResp := s.mainResp ++ [.done] } ∧
      s.sync = .waiting s.millis) := by
  unfold State.releaseHold
  split
  · next h => exact .inl ⟨rfl, by simp [h]⟩
  · next t h =>
    split
    · next e => exact .inr ⟨rfl, by simp [h, e]⟩
    · next e => exact .inl ⟨rfl, by simp [h, Ne.symm e]⟩

/-! The parts of POLL -/

/-- In the domain of `enc` the refresh request carries its digits and nothing else changes (R140, R141). -/
theorem State.emitDigits_inDomain {s : State} (h : s.param.toNat ≤ 99) :
    s.emitDigits = s.pushRefresh
      (.digits (asciiDigit (s.param.toNat / 10)) (asciiDigit (s.param.toNat % 10))) := by
  simp [State.emitDigits, encDigits, h]

/-- A refresh request appends one event with digits. -/
theorem State.emitDigits_frame (s : State) :
    ∃ t o f, s.emitDigits = { s with refreshes := s.refreshes ++ [.digits t o], freeIdx := f } := by
  unfold State.emitDigits
  split
  · exact ⟨_, _, _, rfl⟩
  · exact ⟨_, _, _, rfl⟩

theorem State.emitDigits_enc (s : State) {d : Byte × Byte} (h : encDigits s.param = some d) :
    s.emitDigits = s.pushRefresh (.digits d.1 d.2) := by
  obtain ⟨t, o⟩ := d
  simp [State.emitDigits, h]

/-- ActionA and ActionB touch Param, the refresh events and the free-value counter. -/
theorem State.actionA_frame (s : State) :
    ∃ p r f, s.actionA = { s with param := p, refreshes := s.refreshes ++ [r], freeIdx := f } := by
  unfold State.actionA
  split
  · obtain ⟨_, _, _, h⟩ := (s.setParam (s.param + 1)).emitDigits_frame
    exact ⟨_, _, _, by rw [h]; rfl⟩
  · obtain ⟨_, _, _, h⟩ := s.emitDigits_frame
    exact ⟨_, _, _, by rw [h]⟩

theorem State.actionB_frame (s : State) :
    ∃ p r f, s.actionB = { s with param := p, refreshes := s.refreshes ++ [r], freeIdx := f } := by
  unfold State.actionB
  split
  · obtain ⟨_, _, _, h⟩ := (s.setParam (s.param - 1)).emitDigits_frame
    exact ⟨_, _, _, by rw [h]; rfl⟩
  · obtain ⟨_, _, _, h⟩ := s.emitDigits_frame
    exact ⟨_, _, _, by rw [h]⟩

theorem State.actionS_eq (s : State) :
    s.actionS = { s with dir := s.dir ^^^ 1, refreshes := s.refreshes ++ [.plain] } := rfl

/-- The edge actions of one POLL touch Param, Dir, the refresh events and the free-value counter (R146). -/
theorem State.edgeActions_frame (s : State) (curr prev : Byte) :
    ∃ p d r f, s.edgeActions curr prev = { s with param := p, dir := d, refreshes := s.refreshes ++ r, freeIdx := f } := by
  unfold State.edgeActions
  split
  · by_cases ha : edgeFires curr prev s.cfg.bitA = true
    · obtain ⟨pa, ra, fa, h⟩ := s.actionA_frame
      simp only [ha, if_true, h]
      split
      · obtain ⟨pb, rb, fb, h'⟩ := State.actionB_frame
          { s with param := pa, refreshes := s.refreshes ++ [ra], freeIdx := fa }
        exact ⟨pb, s.dir, [ra, rb], fb, by rw [h']; simp⟩
      · exact ⟨pa, s.dir, [ra], fa, rfl⟩
    · simp only [ha]
      split
      · obtain ⟨pb, rb, fb, h'⟩ := s.actionB_frame
        exact ⟨pb, s.dir, [rb], fb, by simpa using h'⟩
      · exact ⟨s.param, s.dir, [], s.freeIdx, by simp⟩
  · split
    · exact ⟨s.param, s.dir ^^^ 1, [.plain], s.freeIdx, rfl⟩
    · exact ⟨s.param, s.dir, [], s.freeIdx, by simp⟩

/-- Where no bit fires, the edge actions do nothing (R132, R141). -/
theorem State.edgeActions_same (s : State) (v : Byte) : s.edgeActions v v = s := by
  have h : ∀ b, edgeFires v v b = false := by intro b; simp [edgeFires]
  unfold State.edgeActions
  split <;> simp [h]

end Sys2Proof.Machine
end

