-- ==== Sys2Proof/Laws/Exec.lean ====
section
/-! SUPPORT. What each operation, and one step, can do when it answers a next state: one inversion lemma each. -/

namespace Sys2Proof.Machine

theorem exec_now_next {s t : State} (h : exec .now s = .next t) : t = s.respond (.done16 s.millis) :=
  (Host.Outcome.next.inj h).symm

theorem exec_getEvent_next {s t : State} (h : exec .getEvent s = .next t) : t = s.respond (.done8 s.latch) :=
  (Host.Outcome.next.inj h).symm

theorem exec_setEvent_next {s t : State} {imm8 : Byte} (h : exec (.setEvent imm8) s = .next t) :
    s.ctx = .interrupt ∧ t = { s with latch := imm8, irqResp := s.irqResp ++ [.done] } := by
  simp only [exec, execSetEvent] at h
  split at h
  · cases h
  · next hc =>
    refine ⟨hc, ?_⟩
    rw [State.respond_interrupt (by simpa using hc)] at h
    exact (Host.Outcome.next.inj h).symm

theorem exec_syncDelay_next {s t : State} {offset : Half} (h : exec (.syncDelay offset) s = .next t) :
    s.ctx = .main ∧
    ((offset = 0 ∧ t = { s with mainResp := s.mainResp ++ [.done] }) ∨
     (offset ≠ 0 ∧ offset.toNat < s.cfg.period ∧
       t = { s with sync := .waiting (waitTarget s.cfg offset s.millis) })) := by
  simp only [exec, execSyncDelay] at h
  split at h
  · cases h
  · next hc =>
    refine ⟨hc, ?_⟩
    split at h
    · next h0 =>
      rw [State.respond_main hc] at h
      exact .inl ⟨h0, (Host.Outcome.next.inj h).symm⟩
    · next h0 =>
      split at h
      · cases h
      · exact .inr ⟨h0, by omega, (Host.Outcome.next.inj h).symm⟩

theorem exec_write_next {s t : State} {port : BitVec 2} {mask value : Byte}
    (h : exec (.write port mask value) s = .next t) :
    s.ctx = .main ∧ ∃ i, portOfIndex port = some i ∧
      t = { s with
        ports := s.ports.set i (maskedWrite (s.ports.get i) mask value)
        mainResp := s.mainResp ++ [.done] } := by
  simp only [exec, execWrite] at h
  split at h
  · cases h
  · next i hi =>
    split at h
    · cases h
    · next hc =>
      rw [State.respond_main (by simpa using hc)] at h
      exact ⟨hc, i, hi, (Host.Outcome.next.inj h).symm⟩

/-- POLL writes Prev, and may write Param, Dir, the refresh events and the free-value counter (R146). -/
theorem exec_poll_next {s t : State} (h : exec .poll s = .next t) :
    s.ctx = .main ∧ ∃ p d r f,
      s.edgeActions s.latch s.prev =
        { s with param := p, dir := d, refreshes := s.refreshes ++ r, freeIdx := f } ∧
      t = { s with
        prev := s.latch, param := p, dir := d, refreshes := s.refreshes ++ r, freeIdx := f
        mainResp := s.mainResp ++ [.done] } := by
  simp only [exec, execPoll] at h
  split at h
  · cases h
  · next hc =>
    obtain ⟨p, d, r, f, he⟩ := s.edgeActions_frame s.latch s.prev
    refine ⟨hc, p, d, r, f, he, ?_⟩
    rw [he, State.respond_main (by simpa using hc)] at h
    exact (Host.Outcome.next.inj h).symm

/-- TICK writes the counter and the latch, and may end the hold (R100, R207). -/
theorem exec_tick_next {s t : State} (h : exec .tick s = .next t) :
    s.ctx = .interrupt ∧ ∃ m f,
      s.advanceCounter = { s with millis := m, freeIdx := f } ∧
      ((s.sync ≠ .waiting m ∧
        t = { s with
          millis := m, freeIdx := f, latch := latchByte s.cfg s.pinIn, irqResp := s.irqResp ++ [.done] }) ∨
       (s.sync = .waiting m ∧
        t = { s with
          millis := m, freeIdx := f, latch := latchByte s.cfg s.pinIn, irqResp := s.irqResp ++ [.done]
          sync := .idle, mainResp := s.mainResp ++ [.done] })) := by
  simp only [exec, execTick] at h
  split at h
  · cases h
  · next hc =>
    obtain ⟨m, f, ha⟩ := s.advanceCounter_frame
    refine ⟨hc, m, f, ha, ?_⟩
    rw [ha] at h
    rcases State.releaseHold_cases
      (State.publishEvent { s with millis := m, freeIdx := f } (latchByte s.cfg s.pinIn)) with ⟨hr, hs⟩ | ⟨hr, hs⟩
    · rw [hr, State.respond_interrupt (by simpa using hc)] at h
      exact .inl ⟨by simpa using hs, (Host.Outcome.next.inj h).symm⟩
    · rw [hr, State.respond_interrupt (by simpa using hc)] at h
      exact .inr ⟨by simpa using hs, (Host.Outcome.next.inj h).symm⟩

/-- A word that is performed is an operation (R82). -/
theorem performWord_next {w : CmdWord} {s t : State} (h : performWord w s = .next t) :
    ∃ i, decode w = .ok i ∧ exec i s = .next t := by
  unfold performWord at h
  split at h
  · next i hi => exact ⟨i, hi, h⟩
  · cases h
  · cases h

theorem performWord_ok {w : CmdWord} {i : Instr} (h : decode w = .ok i) (s : State) :
    performWord w s = exec i s := by
  simp [performWord, h]

/-- What the main context's turn can do (R81, R163). -/
theorem mainTurn_next {s t : State} (h : mainTurn s = .next t) :
    (t = s ∧ ((∃ x, s.sync = .waiting x) ∨ s.mainPort = [])) ∨
    (s.sync = .idle ∧ ∃ w ws i, s.mainPort = w :: ws ∧ decode w = .ok i ∧
      exec i { s with mainPort := ws, ctx := .main } = .next t) := by
  unfold mainTurn at h
  split at h
  · next x hx => exact .inl ⟨(Host.Outcome.next.inj h).symm, .inl ⟨x, hx⟩⟩
  · next hs =>
    split at h
    · next hm => exact .inl ⟨(Host.Outcome.next.inj h).symm, .inr hm⟩
    · next w ws hm =>
      obtain ⟨i, hi, he⟩ := performWord_next h
      exact .inr ⟨hs, w, ws, i, hm, hi, he⟩

/-- What the interrupt port's turn can do (R205 to R208). -/
theorem interruptTurn_next {w : CmdWord} {pins : Byte} {s t : State} (h : interruptTurn w pins s = .next t) :
    ∃ i u, decode w = .ok i ∧ exec i { s with ctx := .interrupt, pinIn := pins } = .next u ∧
      t = { u with ctx := .main } := by
  unfold interruptTurn at h
  split at h
  · next u hu =>
    obtain ⟨i, hi, he⟩ := performWord_next hu
    exact ⟨i, u, hi, he, (Host.Outcome.next.inj h).symm⟩
  · cases h
  · cases h

/-- What one step can do: the main context waits, or takes a word; the interrupt port's word is performed; or the
machine is reset. -/
theorem step_next {s t : State} (h : step s = .next t) :
    (∃ ts, s.MainTurn ts ∧ ((∃ x, s.sync = .waiting x) ∨ s.mainPort = []) ∧ t = { s with turns := ts }) ∨
    (∃ ts w ws i, s.MainTurn ts ∧ s.sync = .idle ∧ s.mainPort = w :: ws ∧ decode w = .ok i ∧
      exec i { s with turns := ts, mainPort := ws, ctx := .main } = .next t) ∨
    (∃ w pins ts i u, s.turns = .irq w pins :: ts ∧ decode w = .ok i ∧
      exec i { s with turns := ts, ctx := .interrupt, pinIn := pins } = .next u ∧ t = { u with ctx := .main }) ∨
    (∃ ts, s.turns = .reset :: ts ∧ t = State.applyReset { s with turns := ts }) := by
  unfold step at h
  split at h
  · next ht =>
    have hs : s = { s with turns := [] } := by rw [← ht]
    rw [hs] at h
    rcases mainTurn_next h with ⟨rfl, hw⟩ | ⟨hi, w, ws, i, hm, hd, he⟩
    · exact .inl ⟨[], .inr ⟨ht, rfl⟩, hw, rfl⟩
    · exact .inr (.inl ⟨[], w, ws, i, .inr ⟨ht, rfl⟩, hi, hm, hd, he⟩)
  · next ts ht =>
    rcases mainTurn_next h with ⟨rfl, hw⟩ | ⟨hi, w, ws, i, hm, hd, he⟩
    · exact .inl ⟨ts, .inl ht, hw, rfl⟩
    · exact .inr (.inl ⟨ts, w, ws, i, .inl ht, hi, hm, hd, he⟩)
  · next w pins ts ht =>
    obtain ⟨i, u, hd, he, hu⟩ := interruptTurn_next h
    exact .inr (.inr (.inl ⟨w, pins, ts, i, u, ht, hd, he, hu⟩))
  · next ts ht => exact .inr (.inr (.inr ⟨ts, ht, (Host.Outcome.next.inj h).symm⟩))

end Sys2Proof.Machine
end

