-- ==== Sys2Proof/Laws/PerInstr.lean ====
section
/-! SUPPORT. Two families of facts about every operation's word: its opcode field (rule R71) and its row (R77). -/

namespace Sys2Proof

/-- The opcode number of R77. -/
def Laws.OpField.number (i : Instr) : BitVec 4 :=
  match i with
  | .now => 1
  | .getEvent => 2
  | .setEvent _ => 3
  | .poll => 4
  | .syncDelay _ => 5
  | .write _ _ _ => 6
  | .tick => 7

/-- The word of an operation has its opcode number in bits 23..20. -/
def Laws.OpField.Statement (i : Instr) : Prop := opField (encode i) = Laws.OpField.number i

theorem Laws.OpField.now : Laws.OpField.Statement .now := by
  simp only [Laws.OpField.Statement]; decide
theorem Laws.OpField.getEvent : Laws.OpField.Statement .getEvent := by
  simp only [Laws.OpField.Statement]; decide
theorem Laws.OpField.setEvent (imm8 : Byte) : Laws.OpField.Statement (.setEvent imm8) := by
  simp only [Laws.OpField.Statement, Laws.OpField.number, opField, encode]
  ext b hb
  interval_cases b <;> simp
theorem Laws.OpField.poll : Laws.OpField.Statement .poll := by
  simp only [Laws.OpField.Statement]; decide
theorem Laws.OpField.syncDelay (offset : Half) : Laws.OpField.Statement (.syncDelay offset) := by
  simp only [Laws.OpField.Statement, Laws.OpField.number, opField, encode]
  ext b hb
  interval_cases b <;> simp
theorem Laws.OpField.write (port : BitVec 2) (mask value : Byte) :
    Laws.OpField.Statement (.write port mask value) := by
  simp only [Laws.OpField.Statement, Laws.OpField.number, opField, encode]
  ext b hb
  interval_cases b <;> simp
theorem Laws.OpField.tick : Laws.OpField.Statement .tick := by
  simp only [Laws.OpField.Statement]; decide

/-- The row of R77 an operation belongs to. -/
def Laws.RowMatch.row (i : Instr) : OpRow :=
  match i with
  | .now => rowNow
  | .getEvent => rowGetEvent
  | .setEvent _ => rowSetEvent
  | .poll => rowPoll
  | .syncDelay _ => rowSyncDelay
  | .write _ _ _ => rowWrite
  | .tick => rowTick

/-- The word of an operation passes its row's test, `w AND mask = match`. -/
def Laws.RowMatch.Statement (i : Instr) : Prop := (Laws.RowMatch.row i).selects (encode i) = true

theorem Laws.RowMatch.now : Laws.RowMatch.Statement .now := by
  simp only [Laws.RowMatch.Statement]; decide
theorem Laws.RowMatch.getEvent : Laws.RowMatch.Statement .getEvent := by
  simp only [Laws.RowMatch.Statement]; decide
theorem Laws.RowMatch.setEvent (imm8 : Byte) : Laws.RowMatch.Statement (.setEvent imm8) := by
  simp only [Laws.RowMatch.Statement, Laws.RowMatch.row, OpRow.selects, rowSetEvent, encode, beq_iff_eq]
  ext b hb
  interval_cases b <;> simp
theorem Laws.RowMatch.poll : Laws.RowMatch.Statement .poll := by
  simp only [Laws.RowMatch.Statement]; decide
theorem Laws.RowMatch.syncDelay (offset : Half) : Laws.RowMatch.Statement (.syncDelay offset) := by
  simp only [Laws.RowMatch.Statement, Laws.RowMatch.row, OpRow.selects, rowSyncDelay, encode, beq_iff_eq]
  ext b hb
  interval_cases b <;> simp
theorem Laws.RowMatch.write (port : BitVec 2) (mask value : Byte) :
    Laws.RowMatch.Statement (.write port mask value) := by
  simp only [Laws.RowMatch.Statement, Laws.RowMatch.row, OpRow.selects, rowWrite, encode, beq_iff_eq]
  ext b hb
  interval_cases b <;> simp
theorem Laws.RowMatch.tick : Laws.RowMatch.Statement .tick := by
  simp only [Laws.RowMatch.Statement]; decide

end Sys2Proof
end

