-- ==== Sys2Proof/Laws/Run.lean ====
section
/-! SUPPORT. Running several steps: one step more, and runs joined end to end. -/

namespace Sys2Proof.Machine

theorem run_zero (s : State) : Host.Core.run Sys2Proof.core 0 s = .next s := rfl

/-- A run begins with one step. -/
theorem run_step {n : Nat} {s u : State} (h : step s = .next u) :
    Host.Core.run Sys2Proof.core (n + 1) s = Host.Core.run Sys2Proof.core n u := by
  have h' : Sys2Proof.core.step s = .next u := h
  simp only [Host.Core.run, h']

/-- A run that begins with a refused step is refused. -/
theorem run_refused {n : Nat} {s : State} {r : Refusal} (h : step s = .refused r) :
    Host.Core.run Sys2Proof.core (n + 1) s = .refused r := by
  have h' : Sys2Proof.core.step s = .refused r := h
  simp only [Host.Core.run, h']

/-- A run of `m + n` steps is a run of `n` steps from where `m` steps lead. -/
theorem run_add {m n : Nat} {s u : State} (h : Host.Core.run Sys2Proof.core m s = .next u) :
    Host.Core.run Sys2Proof.core (m + n) s = Host.Core.run Sys2Proof.core n u := by
  induction m generalizing s with
  | zero =>
    have e : s = u := Host.Outcome.next.inj h
    rw [e, Nat.zero_add]
  | succ m ih =>
    rw [Nat.succ_add]
    cases hs : step s with
    | next v => rw [run_step hs] at h ⊢; exact ih h
    | fault r => cases r
    | refused r => rw [run_refused hs] at h; cases h

end Sys2Proof.Machine
end

