-- ==== Sys2Proof/Tests/Slice0.lean ====
section
/-! SUPPORT. Tests, their expected values taken from spec/95_test_vectors.md (the vector's name stands in the
docstring) and spec/30_encoding.md; and a witness for the hypotheses of every statement that has any. -/

namespace Sys2Proof.Tests

open Sys2Proof Sys2Proof.Machine

/-- CFG-EX, variant TWO_BUTTON, right after reset. -/
def two : State := State.resetOf (Config.example .twoButton)

/-- CFG-EX, variant SINGLE_SWITCH, right after reset. -/
def one : State := State.resetOf (Config.example .singleSwitch)

/-- The next state, if there is one. -/
def next? (o : Host.Outcome State Fault Refusal) : Option State :=
  match o with
  | .next s => some s
  | .fault _ => none
  | .refused _ => none

/-- The refusal, if there is one. -/
def refusal? (o : Host.Outcome State Fault Refusal) : Option Refusal :=
  match o with
  | .next _ => none
  | .fault _ => none
  | .refused r => some r

/-! WellFormed: the one check, and the operands it lets through -/

theorem test_wellFormed_refuses_port3 : (Instr.write 3 0 0).wellFormed = false := by decide
theorem test_wellFormed_accepts_ports : [(0 : BitVec 2), 1, 2].all (fun p => (Instr.write p 0xFF 0).wellFormed = true) = true := by decide

/-! Decoding: words written out from the formats and the opcode map (2.1) -/

theorem test_decode_now : decode 0b000100000000000000000000 = .ok .now := by decide
theorem test_decode_getEvent : decode 0b001000000000000000000000 = .ok .getEvent := by decide
theorem test_decode_setEvent : decode 0b001100000000000000000011 = .ok (.setEvent 0x03) := by decide
theorem test_decode_poll : decode 0b010000000000000000000000 = .ok .poll := by decide
theorem test_decode_syncDelay : decode 0b010100000000001111100111 = .ok (.syncDelay 999) := by decide
theorem test_decode_write : decode 0b011000010000111100000110 = .ok (.write 1 0x0F 0x06) := by decide
theorem test_decode_tick : decode 0b011100000000000000000000 = .ok .tick := by decide
theorem test_decode_reserved_opcode :
    [(0x000000 : CmdWord), 0x800000, 0xF12345].all (fun w => decode w = .error .reservedEncoding) = true := by decide
theorem test_decode_reserved_bits :
    [(0x100001 : CmdWord), 0x300100, 0x510000, 0x640000].all (fun w => decode w = .error .reservedEncoding) = true := by decide
theorem test_decode_port3 : decode 0x630000 = .error .noSuchPort := by decide
theorem test_encode : encode (.write 2 0xFF 0xC3) = 0x62FFC3 ∧ encode (.syncDelay 999) = 0x5003E7 := by decide
theorem test_decodeTableWord : decodeTableWord 24 0x610F06 = some (.write 1 0x0F 0x06) := by decide
theorem test_asmText : asmText (pseudoOut 2 0xC3) = "WRITE 2, 255, 195" := by decide
/-- The pseudo-operations of R84. -/
theorem test_pseudo : encode pseudoDelayOff = 0x500000 ∧ encode (pseudoClrB 0 0x81) = 0x608100 ∧
    encode (pseudoSetB 0 0x81) = 0x608181 := by decide

/-! One step of each operation -/

/-- Q2 -/
theorem test_now : (next? (exec .now { two with millis := 999 })).map (·.mainResp) = some [.done16 0x03E7] := by decide
/-- V2, the second of its two operations -/
theorem test_getEvent : (next? (exec .getEvent { two with latch := 0x02 })).map
    (fun t => (t.mainResp, t.latch)) = some ([.done8 0x02], 0x02) := by decide
/-- R123's example -/
theorem test_setEvent : (next? (exec (.setEvent 0x03) { two with ctx := .interrupt })).map (·.latch) = some 0x03 := by
  decide
/-- 2.1: SET_EVENT on the main port -/
theorem test_setEvent_main : refusal? (exec (.setEvent 0x01) two) = some .wrongContext := by decide
/-- E6 -/
theorem test_poll_both : (next? (exec .poll { two with latch := 0x03 })).map
    (fun t => (t.param, t.prev, t.refreshes)) =
    some (50, 0x03, [.digits 0x35 0x31, .digits 0x35 0x30]) := by decide
/-- F4 -/
theorem test_poll_switch : (next? (exec .poll { one with latch := 0x01, dir := 1 })).map
    (fun t => (t.dir, t.prev, t.refreshes)) = some (0, 0x01, [.plain]) := by decide
/-- Y3 -/
theorem test_syncDelay : (next? (exec (.syncDelay 5) { two with millis := 998 })).map (·.sync) = some (.waiting 3) := by
  decide
/-- Y9 -/
theorem test_syncDelay_offset : refusal? (exec (.syncDelay 1000) two) = some .offsetOutOfContract := by decide
/-- W1 -/
theorem test_write : (next? (exec (.write 1 0x0F 0x06) { two with ports := { p0 := 0x12, p1 := 0xA5, p2 := 0x34 } })).map
    (·.ports) = some { p0 := 0x12, p1 := 0xA6, p2 := 0x34 } := by decide
/-- W5 -/
theorem test_write_outside_mask : (next? (exec (.write 0 0x81 0xFF) two)).map (·.ports.p0) = some 0x81 := by decide
/-- T3 -/
theorem test_tick_wrap : (next? (exec .tick { two with ctx := .interrupt, millis := 999, pinIn := 0xFE })).map
    (fun t => (t.millis, t.latch)) = some (0, 0x01) := by decide
/-- T10 -/
theorem test_tick_release : (next? (exec .tick { two with ctx := .interrupt, millis := 6, sync := .waiting 7 })).map
    (fun t => (t.millis, t.sync, t.mainResp)) = some (7, .idle, [.done]) := by decide

/-! The step -/

/-- T6, through the interrupt port -/
theorem test_step_tick : (next? (step { two with turns := [Turn.compareMatch 0xA5] })).map
    (fun t => (t.latch, t.ctx)) = some (0x02, .main) := by decide
/-- 2.1: POLL on the interrupt port -/
theorem test_step_wrong_port : refusal? (step { two with turns := [.irq 0x400000 0xFF] }) = some .wrongContext := by decide
/-- X1 -/
theorem test_step_reset : (next? (step { two with
      millis := 777, latch := 0x03, prev := 0x01, param := 12, ports := { p0 := 1, p1 := 2, p2 := 3 }
      sync := .waiting 5, turns := [.reset] })) = some two := by decide
theorem test_withFetchWord_main :
    (next? (step (State.reset.withFetchWord 24 0x6081FF))).map (·.ports.p0) = some 0x81 := by decide
theorem test_withFetchWord_interrupt :
    (next? (step (State.reset.withFetchWord 24 0x700000))).map (·.millis) = some 1 := by decide

/-! Witnesses: a state and operands that meet all the hypotheses of a statement together. Where a hypothesis says that
an operation, a step or a run answers a next state, the witness gives that state. -/

theorem witness_DecodeOfEncode : (Instr.write 2 0xFF 0x00).WellFormed ∧ (Instr.syncDelay 0xFFFF).WellFormed := by decide
theorem witness_EncodeOfDecode : decode 0x62FFC3 = .ok (.write 2 0xFF 0xC3) := by decide
theorem witness_RowsDoNotOverlap : rowTick ∈ opcodeMap ∧ rowTick.selects 0x700000 = true := by decide

theorem witness_MainTurn_listed :
    State.MainTurn { two with turns := [.main], mainPort := [0x400000] } [] ∧ two.sync = .idle ∧
      decode 0x400000 = .ok .poll := by decide
theorem witness_MainTurn_unlisted : State.MainTurn { two with mainPort := [0x400000] } [] ∧ two.sync = .idle := by decide
theorem witness_InterruptTurn_next :
    decode tickWord = .ok .tick ∧ ∃ t, exec .tick { two with ctx := .interrupt, pinIn := 0xFC } = .next t :=
  ⟨by decide, _, rfl⟩
theorem witness_InterruptTurn_refused :
    decode 0x400000 = .ok .poll ∧ exec .poll { two with ctx := .interrupt, pinIn := 0xFC } = .refused .wrongContext :=
  ⟨by decide, rfl⟩
theorem witness_NoOperation_main :
    State.MainTurn { two with turns := [.main], mainPort := [0x100001] } [] ∧ two.sync = .idle ∧
      decode 0x100001 = .error .reservedEncoding ∧ decode 0x63FFFF = .error .noSuchPort := by decide
theorem witness_NoOperation_interrupt :
    (State.turns { two with turns := [.irq 0x800000 0xFF] } = .irq 0x800000 0xFF :: []) ∧
      decode 0x800000 = .error .reservedEncoding ∧ decode 0x630000 = .error .noSuchPort := by decide

/-- A hold with the turn `x`, the counter at the top of its range. -/
def held (x : Turn) : State := { two with millis := 999, sync := .waiting 0, turns := [x] }

theorem witness_Held_main : (held .main).sync = .waiting 0 ∧ (held .main).MainTurn [] := by decide
theorem witness_Held_tick :
    (held (Turn.compareMatch 0xFE)).turns = Turn.compareMatch 0xFE :: [] ∧
      (held (Turn.compareMatch 0xFE)).cfg.Legal ∧ (held (Turn.compareMatch 0xFE)).CounterInRange := by decide

theorem witness_Completion_main : two.ctx = .main ∧ ∃ t, exec .now two = .next t := ⟨rfl, _, rfl⟩
theorem witness_Completion_interrupt : ∃ t, exec .getEvent { two with ctx := .interrupt } = .next t := ⟨_, rfl⟩
theorem witness_Completion_hold :
    (∃ o : Half, o ≠ 0 ∧ Instr.syncDelay 5 = .syncDelay o) ∧ ∃ t, exec (.syncDelay 5) two = .next t :=
  ⟨⟨5, by decide, rfl⟩, _, rfl⟩

theorem witness_ResetEvent : (State.turns { two with turns := [.reset] }) = .reset :: [] := by decide
/-- For ResetMeetsTheInvariant and PressAtPowerOnIsAnEdge. -/
theorem witness_LegalBuilds : (Config.example .twoButton).Legal ∧ (Config.example .singleSwitch).Legal := by decide

theorem witness_Invariant :
    (held (Turn.compareMatch 0xFC)).Inv ∧ (held (Turn.compareMatch 0xFC)).EnvLegal ∧
      ∃ t, step (held (Turn.compareMatch 0xFC)) = .next t := by
  refine ⟨⟨by decide, by decide, by decide, by decide, ?_, rfl⟩, by decide, _, rfl⟩
  intro t h
  cases h
  decide

/-- A contract-keeping program of three words in an environment of one turn of each kind. -/
def program : State :=
  { two with mainPort := [0x5003E7, 0x62FFC3, 0x400000], turns := [.main, Turn.compareMatch 0xFC, .reset] }

theorem witness_Contract : program.Inv ∧ program.EnvLegal ∧ program.Contract := by
  refine ⟨⟨by decide, by decide, by decide, by decide, (by intro t h; cases h), rfl⟩, by decide, ?_⟩
  intro w h
  rcases List.mem_cons.mp h with rfl | h
  · decide
  · rcases List.mem_cons.mp h with rfl | h
    · decide
    · rw [List.mem_singleton.mp h]; decide
/-- For NoRunChangesTheBuild. -/
theorem witness_Run : ∃ t, Host.Core.run Sys2Proof.core 2
    { two with turns := [Turn.compareMatch 0xFE, .main], mainPort := [0x400000] } = .next t := ⟨_, rfl⟩
theorem witness_TimerParameters :
    (∃ t, step { two with mainPort := [0x400000] } = .next t) ∧
      ∃ r, step { two with mainPort := [0x700000] } = .refused r := ⟨⟨_, rfl⟩, _, rfl⟩

/-- The interrupt context with the counter at `c`. -/
def ticking (c : Half) : State := { two with ctx := .interrupt, millis := c, sync := .waiting 0 }

/-- For TickCompletes…, CounterChanges… (first clause) and TickFrame, at both ends of the range. -/
theorem witness_Tick : [(0 : Half), 998, 999].all (fun c =>
    (ticking c).ctx = .interrupt ∧ (ticking c).cfg.Legal ∧ (ticking c).CounterInRange) = true := by decide
theorem witness_CounterChanges_tick : ∃ t, step (held (Turn.compareMatch 0xFF)) = .next t ∧
    t.millis ≠ (held (Turn.compareMatch 0xFF)).millis := ⟨_, rfl, by decide⟩
theorem witness_CounterChanges_reset :
    ∃ t, step (held .reset) = .next t ∧ t.millis ≠ (held .reset).millis := ⟨_, rfl, by decide⟩

/-- The counter at 998 and two compare-match events to come. -/
def twoTicks : State := { two with millis := 998, turns := [Turn.compareMatch 0xFE, Turn.compareMatch 0xFF] }

/-- For TicksAdvanceTheCounterModuloPeriod and CounterFirstReturnsToZero. -/
theorem witness_Ticks :
    twoTicks.cfg.Legal ∧ twoTicks.CounterInRange ∧ twoTicks.turns = [0xFE, 0xFF].map Turn.compareMatch ++ [] := by decide
theorem witness_FirstZero_at :
    0 < [(0xFE : Byte), 0xFF].length ∧ [(0xFE : Byte), 0xFF].length = twoTicks.cfg.period - twoTicks.millis.toNat := by
  decide
theorem witness_FirstZero_before :
    twoTicks.turns = [0xFE].map Turn.compareMatch ++ [Turn.compareMatch 0xFF] ∧
      [(0xFE : Byte)].length ≤ twoTicks.cfg.period - twoTicks.millis.toNat := by decide
/-- For NowReturnsTheCounter, GetEventReturnsTheLatch, SetEventPublishesItsByte, SyncDelayZeroReturnsAtOnce, and the
first clauses of OnlyPoll… and PrevIsWritten…. -/
theorem witness_contexts : (two.ctx = .main ∧ two.sync = .idle) ∧ (ticking 0).ctx = .interrupt := by decide

/-- Two NOWs with one compare-match event between them, at the wrap. -/
def twoNows : State :=
  { two with millis := 999, mainPort := [0x100000, 0x100000], turns := [.main, Turn.compareMatch 0xFF, .main] }

theorem witness_TwoNows :
    twoNows.cfg.Legal ∧ twoNows.CounterInRange ∧ twoNows.sync = .idle ∧
      twoNows.turns = .main :: ([0xFF].map Turn.compareMatch ++ .main :: []) ∧
      twoNows.mainPort = 0x100000 :: 0x100000 :: [] := by decide
theorem witness_UnwatchedPins : (0xFC : Byte) &&& watchMask two.cfg = 0x00 &&& watchMask two.cfg ∧
    ∃ t, step { two with turns := Turn.compareMatch 0xFC :: [] } = .next t := ⟨by decide, _, rfl⟩

/-- A main context about to POLL with `latch` against Prev 0, Param at `p`. -/
def polling (latch p : Byte) : State := { two with latch := latch, param := p }

/-- For PollTwoButtonResult and, at the ends and inside of the range, BothButtonsAtAClamp. -/
theorem witness_PollTwoButton : [(1 : Byte), 50, 99].all (fun p =>
    (polling 0x03 p).ctx = .main ∧ (polling 0x03 p).sync = .idle ∧ (polling 0x03 p).cfg.variant = .twoButton ∧
      1 ≤ (polling 0x03 p).param.toNat ∧ (polling 0x03 p).param.toNat ≤ (polling 0x03 p).cfg.paramMax.toNat ∧
      (polling 0x03 p).cfg.paramMax.toNat ≤ 99 ∧
      Rises (polling 0x03 p).latch (polling 0x03 p).prev (polling 0x03 p).cfg.bitA ∧
      Rises (polling 0x03 p).latch (polling 0x03 p).prev (polling 0x03 p).cfg.bitB) = true := by decide
theorem witness_PollSingleSwitch : one.ctx = .main ∧ one.sync = .idle ∧ one.cfg.variant = .singleSwitch := by decide
theorem witness_Increment : [(98 : Byte), 99, 100].all (fun p =>
    (polling 0x01 p).ctx = .main ∧ (polling 0x01 p).sync = .idle ∧ (polling 0x01 p).cfg.variant = .twoButton ∧
      Rises (polling 0x01 p).latch (polling 0x01 p).prev (polling 0x01 p).cfg.bitA ∧
      ¬ Rises (polling 0x01 p).latch (polling 0x01 p).prev (polling 0x01 p).cfg.bitB) = true := by decide
theorem witness_Decrement : [(0 : Byte), 1, 2].all (fun p =>
    (polling 0x02 p).ctx = .main ∧ (polling 0x02 p).sync = .idle ∧ (polling 0x02 p).cfg.variant = .twoButton ∧
      ¬ Rises (polling 0x02 p).latch (polling 0x02 p).prev (polling 0x02 p).cfg.bitA ∧
      Rises (polling 0x02 p).latch (polling 0x02 p).prev (polling 0x02 p).cfg.bitB) = true := by decide
theorem witness_OnlyPoll_edge : ∃ t, step { polling 0x01 50 with mainPort := [0x400000] } = .next t ∧
    t.param ≠ (polling 0x01 50).param := ⟨_, rfl, by decide⟩
theorem witness_OnlyPoll_reset :
    ∃ t, step { polling 0 7 with turns := [.reset] } = .next t ∧ t.param ≠ (polling 0 7).param := ⟨_, rfl, by decide⟩
theorem witness_Prev : ∃ t, step { polling 0x80 50 with mainPort := [0x400000] } = .next t ∧
    t.prev ≠ (polling 0x80 50).prev := ⟨_, rfl, by decide⟩
theorem witness_SecondPoll : ∃ t, exec .poll (polling 0x03 99) = .next t := ⟨_, rfl⟩
theorem witness_Holding :
    let s := { polling 0x01 50 with turns := [.main, .main], mainPort := [0x400000, 0x400000] }
    s.sync = .idle ∧ s.turns = List.replicate (1 + 1) .main ++ [] ∧
      s.mainPort = List.replicate (1 + 1) (0x400000 : CmdWord) ++ [] := by decide

/-- Four POLLs: after a press, after no event, after a release, after another press. -/
def schedule : List (List Byte) := [[0xFF, 0xFE], [], [0xFF], [0xFE]]

/-- For TwoButtonFiresOncePerSampledEdge and SwitchTogglesOncePerSampledEdge. -/
theorem witness_Schedule : [two, one].all (fun s =>
    let u := { s with turns := pollTurns schedule, mainPort := List.replicate schedule.length 0x400000 }
    u.cfg.Legal ∧ u.CounterInRange ∧ u.sync = .idle ∧ u.turns = pollTurns schedule ++ [] ∧
      u.mainPort = List.replicate schedule.length (0x400000 : CmdWord) ++ []) = true := by decide
/-- S4: the samples of that schedule are B, B, 0, B, in which the bit rises twice. -/
theorem test_risingEdges :
    pollSamples two.cfg 0 schedule = [0x01, 0x01, 0x00, 0x01] ∧
      risingEdges two.cfg.bitA 0 (pollSamples two.cfg 0 schedule) = 2 := by decide
theorem witness_Digits : (99 : Byte).toNat ≤ 99 := by decide
theorem witness_Refresh :
    State.Inv { polling 0x01 99 with mainPort := [0x400000] } ∧
      ∃ t, step { polling 0x01 99 with mainPort := [0x400000] } = .next t ∧
        t.refreshes ≠ State.refreshes (polling 0x01 99) ∧ ∀ ts, State.turns (polling 0x01 99) ≠ .reset :: ts :=
  ⟨⟨by decide, by decide, by decide, by decide, (by intro t h; cases h), rfl⟩, _, rfl, by decide,
    fun _ h => List.cons_ne_nil _ _ h.symm⟩
theorem witness_PressAtPowerOn :
    (0xFE : Byte) &&& two.cfg.bitA = 0 ∧ (0xFE : Byte) &&& two.cfg.bitB ≠ 0 ∧ (0xFE : Byte) &&& one.cfg.bitS = 0 := by
  decide

theorem witness_SyncDelayTarget : [(1 : Half), 999].all (fun o =>
    let s := { two with millis := 999 }
    s.ctx = .main ∧ s.sync = .idle ∧ s.cfg.Legal ∧ s.CounterInRange ∧ 0 < o.toNat ∧ o.toNat < s.cfg.period) = true := by decide
theorem witness_HoldEnds_tick :
    ∃ t, step (held (Turn.compareMatch 0xFF)) = .next t ∧ t.sync ≠ .waiting 0 := ⟨_, rfl, by decide⟩
theorem witness_HoldEnds_reset : ∃ t, step (held .reset) = .next t ∧ t.sync ≠ .waiting 0 := ⟨_, rfl, by decide⟩
theorem witness_SyncDelayWaits :
    let s := { two with mainPort := [encode (.syncDelay 2)] }
    let ts := [Turn.main, Turn.compareMatch 0xFF, .main]
    s.cfg.Legal ∧ s.CounterInRange ∧ s.sync = .idle ∧ 0 < (2 : Half).toNat ∧ (2 : Half).toNat < s.cfg.period ∧
      s.mainPort = encode (.syncDelay 2) :: [] ∧ (∀ x ∈ ts, x ≠ .reset ∧ x.legal = true) ∧
      tickCount ts < (2 : Half).toNat ∧ tickCount ts + 1 = (2 : Half).toNat := by decide

theorem witness_Write : two.ctx = .main ∧ two.sync = .idle ∧ (2 : BitVec 2) ≠ 3 := by decide
theorem witness_WriteTwice : ∃ t u, exec (.write 0 0x81 0xFF) two = .next t ∧ exec (.write 0 0x81 0xFF) t = .next u :=
  ⟨_, _, rfl, rfl⟩
theorem witness_WritesCommute : (0x0F : Byte) &&& 0xF0 = 0 ∧
    (∃ t u, exec (.write 1 0x0F 0x06) two = .next t ∧ exec (.write 1 0xF0 0xAA) t = .next u) ∧
    ∃ t u, exec (.write 1 0xF0 0xAA) two = .next t ∧ exec (.write 1 0x0F 0x06) t = .next u :=
  ⟨by decide, ⟨_, _, rfl, rfl⟩, _, _, rfl, rfl⟩
theorem witness_WriteAndTick :
    let s := { two with millis := 999, mainPort := [encode (.write 2 0xFF 0xC3)] }
    (2 : BitVec 2) ≠ 3 ∧ s.sync = .idle ∧ s.mainPort = encode (.write 2 0xFF 0xC3) :: [] := by decide
theorem witness_OneWritingContext_main : two.ctx = .main ∧ ∃ t, exec .poll two = .next t := ⟨rfl, _, rfl⟩
theorem witness_OneWritingContext_interrupt :
    (ticking 999).ctx = .interrupt ∧ ∃ t, exec .tick (ticking 999) = .next t := ⟨rfl, _, rfl⟩

end Sys2Proof.Tests
end

section
/-! The family of spec/40_clock.md: which word is TICK's, what TICK makes of the counter, and who else writes it. -/

namespace Sys2Proof.Machine

/-! A word that decodes selects the row of the operation it is (R77, R82). -/

theorem checkRow_ok {r : OpRow} {w : CmdWord} {i j : Instr} (h : checkRow r w i = .ok j) :
    r.selects w = true ∧ i = j := by
  unfold checkRow at h
  split at h
  · next hs => exact ⟨hs, Except.ok.inj h⟩
  · cases h

theorem checkPort_ok {i j : Instr} (h : checkPort i = .ok j) : i = j := by
  unfold checkPort at h
  split at h
  · split at h
    · cases h
    · exact Except.ok.inj h
  · exact Except.ok.inj h

theorem checkRow_bind_checkPort_ok {r : OpRow} {w : CmdWord} {i j : Instr}
    (h : (checkRow r w i).bind checkPort = .ok j) : r.selects w = true ∧ i = j := by
  cases hr : checkRow r w i with
  | error e => rw [hr] at h; cases h
  | ok k =>
    rw [hr] at h
    obtain ⟨hs, rfl⟩ := checkRow_ok hr
    exact ⟨hs, checkPort_ok h⟩

theorem decode_ok_selects_row {w : CmdWord} {i : Instr} (h : decode w = .ok i) :
    (Laws.RowMatch.row i).selects w = true := by
  unfold decode at h
  split at h
  case h_6 => obtain ⟨hs, rfl⟩ := checkRow_bind_checkPort_ok h; exact hs
  case h_8 => cases h
  all_goals obtain ⟨hs, rfl⟩ := checkRow_ok h; exact hs

/-- TICK's row fixes all 24 bits, so its word is the only one that decodes to TICK (R77, R100). -/
theorem decode_ok_tick {w : CmdWord} (h : decode w = .ok .tick) : w = tickWord := by
  have hs : w &&& BitVec.allOnes 24 = tickWord := eq_of_beq (decode_ok_selects_row h)
  rwa [BitVec.and_allOnes] at hs

/-! Who writes the counter (R101). -/

/-- In the interrupt context TICK completes. -/
theorem exec_tick_completes {s : State} (hc : s.ctx = .interrupt) : ∃ t, exec .tick s = .next t := by
  simp [exec, execTick, hc]

/-- The counter a completed TICK leaves, from a counter in range in a legal build. -/
theorem exec_tick_millis {s t : State} (hl : s.cfg.Legal) (hr : s.CounterInRange) (h : exec .tick s = .next t) :
    t.millis.toNat = (s.millis.toNat + 1) % s.cfg.period := by
  have hlt : (s.millis.toNat + 1) % s.cfg.period < 2 ^ 16 := by
    obtain ⟨h2, h3, -⟩ := hl
    exact (Nat.mod_lt _ (by omega)).trans_le (by omega)
  obtain ⟨-, m, f, ha, ht⟩ := exec_tick_next h
  have hm : t.millis = m := by rcases ht with ⟨-, rfl⟩ | ⟨-, rfl⟩ <;> rfl
  have hadv : m = BitVec.ofNat 16 ((s.millis.toNat + 1) % s.cfg.period) :=
    congrArg State.millis (ha.symm.trans (State.advanceCounter_inRange hl hr))
  rw [hm, hadv, BitVec.toNat_ofNat, Nat.mod_eq_of_lt hlt]

/-- An operation that completes leaves the counter alone unless it is TICK in the interrupt context. -/
theorem exec_millis_same_or_tick {i : Instr} {s t : State} (h : exec i s = .next t) :
    t.millis = s.millis ∨ (i = .tick ∧ s.ctx = .interrupt) := by
  cases i with
  | now => left; rw [exec_now_next h, State.respond_millis]
  | getEvent => left; rw [exec_getEvent_next h, State.respond_millis]
  | setEvent imm8 => obtain ⟨-, rfl⟩ := exec_setEvent_next h; exact .inl rfl
  | poll => obtain ⟨-, p, d, r, f, -, rfl⟩ := exec_poll_next h; exact .inl rfl
  | syncDelay offset => obtain ⟨-, ⟨-, rfl⟩ | ⟨-, -, rfl⟩⟩ := exec_syncDelay_next h <;> exact .inl rfl
  | write port mask value => obtain ⟨-, j, -, rfl⟩ := exec_write_next h; exact .inl rfl
  | tick => exact .inr ⟨rfl, (exec_tick_next h).1⟩

/-- A step that changes the counter is a compare-match event or a reset. -/
theorem step_millis_changes {s t : State} (h : step s = .next t) (hne : t.millis ≠ s.millis) :
    (∃ pins ts, s.turns = Turn.compareMatch pins :: ts) ∨ ∃ ts, s.turns = .reset :: ts := by
  rcases step_next h with ⟨ts, -, -, rfl⟩ | ⟨ts, w, ws, i, -, -, -, -, he⟩ |
    ⟨w, pins, ts, i, u, hturns, hd, he, rfl⟩ | ⟨ts, hturns, -⟩
  · exact absurd rfl hne
  · rcases exec_millis_same_or_tick he with hsame | ⟨-, hctx⟩
    · exact absurd hsame hne
    · cases hctx
  · rcases exec_millis_same_or_tick he with hsame | ⟨rfl, -⟩
    · exact absurd hsame hne
    · obtain rfl := decode_ok_tick hd
      exact .inl ⟨pins, ts, hturns⟩
  · exact .inr ⟨ts, hturns⟩

/-- Settles O21: the value from the counter step of a TICK in range, the frame from the inversion of a step. -/
theorem counterChangesOnlyByTickAndReset : Obligations.CounterChangesOnlyByTickAndReset := by
  unfold Obligations.CounterChangesOnlyByTickAndReset
  refine ⟨fun s hctx hl hr => ?_, fun s t => step_millis_changes⟩
  obtain ⟨t, ht⟩ := exec_tick_completes hctx
  have hv := exec_tick_millis hl hr ht
  refine ⟨t, ht, hv, fun hlt => ?_, fun heq => ?_⟩
  · rw [hv, Nat.mod_eq_of_lt (by omega)]
  · have hwrap : s.millis.toNat + 1 = s.cfg.period := by omega
    rw [hwrap, Nat.mod_self] at hv
    exact BitVec.eq_of_toNat_eq hv

end Sys2Proof.Machine
end


section
/-! The family of spec/42_edge_decoder.md: what a fired action makes of Param, which POLLs fire nothing, and who else
writes Param and Dir. -/

namespace Sys2Proof.Machine

/-! The edge conditions (R132) -/

theorem edgeFires_iff_rises (curr prev bit : Byte) : edgeFires curr prev bit = true ↔ Rises curr prev bit := by
  simp only [edgeFires, Rises, Bool.and_eq_true, bne_iff_ne, beq_iff_eq]

/-- Cut down to a watched bit that rises, the fired set is what the latch shows of that bit. -/
theorem firedSet_and_watched {c : Config} {curr prev bit : Byte} (hw : watchMask c &&& bit = bit)
    (hp : prev &&& bit = 0) : firedSet c curr prev &&& bit = curr &&& bit := by
  have hprev : ~~~prev &&& bit = bit := by
    have hsplit : (prev &&& bit) ||| (~~~prev &&& bit) = bit := by
      ext i; simp only [BitVec.getElem_or, BitVec.getElem_and, BitVec.getElem_not]; cases prev[i] <;> simp
    simpa [hp] using hsplit
  rw [firedSet, BitVec.and_assoc, hw, BitVec.and_assoc, hprev]

/-- When the fired set is empty, no watched bit rises. -/
theorem not_rises_of_firedSet_eq_zero {c : Config} {curr prev bit : Byte} (hf : firedSet c curr prev = 0)
    (hw : watchMask c &&& bit = bit) : ¬ Rises curr prev bit := by
  rintro ⟨hcurr, hprev⟩
  rw [← firedSet_and_watched hw hprev, hf] at hcurr
  exact hcurr BitVec.zero_and

theorem watchMask_and_bitA {c : Config} (hv : c.variant = .twoButton) : watchMask c &&& c.bitA = c.bitA := by
  ext i; simpa [watchMask, hv] using Or.inl

theorem watchMask_and_bitB {c : Config} (hv : c.variant = .twoButton) : watchMask c &&& c.bitB = c.bitB := by
  ext i; simpa [watchMask, hv] using Or.inr

theorem watchMask_and_bitS {c : Config} (hv : c.variant = .singleSwitch) : watchMask c &&& c.bitS = c.bitS := by
  simp [watchMask, hv]

/-! The actions of one POLL, variant by variant (R135, R139) -/

theorem State.edgeActions_twoButton {s : State} (hv : s.cfg.variant = .twoButton) (curr prev : Byte) :
    s.edgeActions curr prev =
      if Rises curr prev s.cfg.bitB then (if Rises curr prev s.cfg.bitA then s.actionA else s).actionB
      else if Rises curr prev s.cfg.bitA then s.actionA else s := by
  simp only [State.edgeActions, hv, edgeFires_iff_rises]

theorem State.edgeActions_singleSwitch {s : State} (hv : s.cfg.variant = .singleSwitch) (curr prev : Byte) :
    s.edgeActions curr prev = if Rises curr prev s.cfg.bitS then s.actionS else s := by
  simp only [State.edgeActions, hv, edgeFires_iff_rises]

@[simp] theorem State.actionA_dir (s : State) : s.actionA.dir = s.dir := by
  obtain ⟨_, _, _, h⟩ := s.actionA_frame; rw [h]

@[simp] theorem State.actionB_dir (s : State) : s.actionB.dir = s.dir := by
  obtain ⟨_, _, _, h⟩ := s.actionB_frame; rw [h]

@[simp] theorem State.actionS_param (s : State) : s.actionS.param = s.param := rfl

/-- In TWO_BUTTON the actions leave Dir alone. -/
theorem State.edgeActions_dir_of_twoButton {s : State} (hv : s.cfg.variant = .twoButton) (curr prev : Byte) :
    (s.edgeActions curr prev).dir = s.dir := by
  rw [State.edgeActions_twoButton hv]
  split_ifs <;> simp

/-- In SINGLE_SWITCH the actions leave Param alone. -/
theorem State.edgeActions_param_of_singleSwitch {s : State} (hv : s.cfg.variant = .singleSwitch) (curr prev : Byte) :
    (s.edgeActions curr prev).param = s.param := by
  rw [State.edgeActions_singleSwitch hv]
  split_ifs <;> simp

/-- Where the fired set is empty, the edge actions do nothing (R132, R141). -/
theorem State.edgeActions_of_firedSet_eq_zero {s : State} {curr prev : Byte} (hf : firedSet s.cfg curr prev = 0) :
    s.edgeActions curr prev = s := by
  cases hv : s.cfg.variant with
  | twoButton =>
    have hA := not_rises_of_firedSet_eq_zero hf (watchMask_and_bitA hv)
    have hB := not_rises_of_firedSet_eq_zero hf (watchMask_and_bitB hv)
    rw [State.edgeActions_twoButton hv, if_neg hB, if_neg hA]
  | singleSwitch =>
    have hS := not_rises_of_firedSet_eq_zero hf (watchMask_and_bitS hv)
    rw [State.edgeActions_singleSwitch hv, if_neg hS]

/-! What a fired button makes of Param (R136, R137, R141) -/

/-- Setting Param and requesting a refresh emits one event, with `enc` of the value set where `enc` is defined. -/
theorem State.setParam_emitDigits (s : State) (p : Byte) : ∃ (e : Refresh) (f : Nat),
    (s.setParam p).emitDigits = { s with param := p, refreshes := s.refreshes ++ [e], freeIdx := f } ∧
      ∀ d, encDigits p = some d → e = .digits d.1 d.2 ∧ f = s.freeIdx := by
  cases hd : encDigits p with
  | none =>
    obtain ⟨tens, ones, f, hf⟩ := (s.setParam p).emitDigits_frame
    exact ⟨_, f, hf, fun d h => by cases h⟩
  | some d =>
    exact ⟨_, _, State.emitDigits_enc (s.setParam p) hd, fun _ h => by cases h; exact ⟨rfl, rfl⟩⟩

/-- ActionA sets Param to the clamped successor, then requests the refresh. -/
theorem State.actionA_eq (s : State) :
    s.actionA = (s.setParam (if s.param < s.cfg.paramMax then s.param + 1 else s.param)).emitDigits := by
  unfold State.actionA
  split <;> rfl

/-- ActionB sets Param to the clamped predecessor, then requests the refresh. -/
theorem State.actionB_eq (s : State) :
    s.actionB = (s.setParam (if 1 < s.param then s.param - 1 else s.param)).emitDigits := by
  unfold State.actionB
  split <;> rfl

/-! POLL (R130, R134) -/

/-- In the main context POLL completes with its actions done, Prev written and `done` signalled. -/
theorem exec_poll_main {s : State} (hc : s.ctx = .main) :
    exec .poll s = .next { s.edgeActions s.latch s.prev with
      prev := s.latch, mainResp := s.mainResp ++ [.done] } := by
  obtain ⟨p, d, r, f, he⟩ := s.edgeActions_frame s.latch s.prev
  simp only [exec, execPoll, hc, he]
  rw [State.respond_main rfl]
  rfl

/-- A POLL whose actions come to one write of Param with a refresh request, as they do when one button alone fires. -/
theorem exec_poll_setParam {s : State} {p : Byte} (hc : s.ctx = .main)
    (ha : s.edgeActions s.latch s.prev = (s.setParam p).emitDigits) : ∃ (e : Refresh) (f : Nat),
    exec .poll s = .next { s with
      param := p, prev := s.latch, mainResp := s.mainResp ++ [.done], refreshes := s.refreshes ++ [e], freeIdx := f } ∧
      ∀ d, encDigits p = some d → e = .digits d.1 d.2 ∧ f = s.freeIdx := by
  obtain ⟨e, f, he, henc⟩ := s.setParam_emitDigits p
  exact ⟨e, f, by rw [exec_poll_main hc, ha, he], henc⟩

/-- Settles O33: the one action is ActionA, a write of the clamped successor with its refresh request. -/
theorem incrementClampsAtTheMaximum : Obligations.IncrementClampsAtTheMaximum := by
  unfold Obligations.IncrementClampsAtTheMaximum
  intro s hc _ hv hA hB
  have ha : s.edgeActions s.latch s.prev = s.actionA := by
    rw [State.edgeActions_twoButton hv, if_neg hB, if_pos hA]
  obtain ⟨e, f, hexec, henc⟩ := exec_poll_setParam hc (ha.trans s.actionA_eq)
  refine ⟨_, e, f, hexec, fun hlt => ?_, fun hge => if_neg (BitVec.not_lt.mpr hge), henc⟩
  rw [if_pos (BitVec.lt_def.mpr hlt)]
  exact BitVec.toNat_add_of_lt ((Nat.succ_le_of_lt hlt).trans_lt s.cfg.paramMax.isLt)

/-- Settles O34: the one action is ActionB, a write of the clamped predecessor with its refresh request. -/
theorem decrementStopsAtOne : Obligations.DecrementStopsAtOne := by
  unfold Obligations.DecrementStopsAtOne
  intro s hc _ hv hA hB
  have ha : s.edgeActions s.latch s.prev = s.actionB := by
    rw [State.edgeActions_twoButton hv, if_pos hB, if_neg hA]
  obtain ⟨e, f, hexec, henc⟩ := exec_poll_setParam hc (ha.trans s.actionB_eq)
  refine ⟨_, e, f, hexec, fun hgt => ?_, fun hle => if_neg (BitVec.not_lt.mpr hle), henc⟩
  have hone : 1 < s.param := hgt
  rw [if_pos hone]
  exact BitVec.toNat_sub_of_le (BitVec.le_of_lt hone)

/-! Who writes Param and Dir (R146) -/

/-- POLL's row fixes all 24 bits, so its word is the only one that decodes to POLL (R77). -/
theorem decode_ok_poll {w : CmdWord} (h : decode w = .ok .poll) : w = 0x400000 := by
  have hs : w &&& BitVec.allOnes 24 = 0x400000 := eq_of_beq (decode_ok_selects_row h)
  rwa [BitVec.and_allOnes] at hs

/-- An operation that completes leaves Param and Dir alone unless it is a POLL with a detected edge. -/
theorem exec_param_dir_same_or_poll {i : Instr} {s t : State} (h : exec i s = .next t) :
    (t.param = s.param ∧ t.dir = s.dir) ∨
      (i = .poll ∧ s.ctx = .main ∧ firedSet s.cfg s.latch s.prev ≠ 0) := by
  cases i with
  | now => left; rw [exec_now_next h]; simp
  | getEvent => left; rw [exec_getEvent_next h]; simp
  | setEvent imm8 => obtain ⟨-, rfl⟩ := exec_setEvent_next h; exact .inl ⟨rfl, rfl⟩
  | poll =>
    obtain ⟨hc, -⟩ := exec_poll_next h
    by_cases hf : firedSet s.cfg s.latch s.prev = 0
    · rw [exec_poll_main hc, State.edgeActions_of_firedSet_eq_zero hf] at h
      obtain rfl := Host.Outcome.next.inj h
      exact .inl ⟨rfl, rfl⟩
    · exact .inr ⟨rfl, hc, hf⟩
  | syncDelay offset => obtain ⟨-, ⟨-, rfl⟩ | ⟨-, -, rfl⟩⟩ := exec_syncDelay_next h <;> exact .inl ⟨rfl, rfl⟩
  | write port mask value => obtain ⟨-, j, -, rfl⟩ := exec_write_next h; exact .inl ⟨rfl, rfl⟩
  | tick => obtain ⟨-, m, f, -, ⟨-, rfl⟩ | ⟨-, rfl⟩⟩ := exec_tick_next h <;> exact .inl ⟨rfl, rfl⟩

/-- A step that changes Param or Dir is a reset, or the main context's POLL on a detected edge. -/
theorem step_param_dir_changes {s t : State} (h : step s = .next t) (hne : t.param ≠ s.param ∨ t.dir ≠ s.dir) :
    (∃ ts, s.turns = .reset :: ts) ∨
    (s.sync = .idle ∧ (∃ ts ws, s.MainTurn ts ∧ s.mainPort = 0x400000 :: ws) ∧
      firedSet s.cfg s.latch s.prev ≠ 0) := by
  have hchanged : ¬ (t.param = s.param ∧ t.dir = s.dir) := by tauto
  rcases step_next h with ⟨ts, -, -, rfl⟩ | ⟨ts, w, ws, i, hmain, hidle, hport, hd, he⟩ |
    ⟨w, pins, ts, i, u, -, -, he, rfl⟩ | ⟨ts, hturns, -⟩
  · exact absurd ⟨rfl, rfl⟩ hchanged
  · rcases exec_param_dir_same_or_poll he with hsame | ⟨rfl, -, hf⟩
    · exact absurd hsame hchanged
    · rw [decode_ok_poll hd] at hport
      exact .inr ⟨hidle, ⟨ts, ws, hmain, hport⟩, hf⟩
  · rcases exec_param_dir_same_or_poll he with hsame | ⟨-, hctx, -⟩
    · exact absurd hsame hchanged
    · cases hctx
  · exact .inl ⟨ts, hturns⟩

/-- Settles O36: POLL's frame is that of its actions, variant by variant, and the rest is the inversion of a step. -/
theorem onlyPollOnAnEdgeChangesTheParameter : Obligations.OnlyPollOnAnEdgeChangesTheParameter := by
  unfold Obligations.OnlyPollOnAnEdgeChangesTheParameter
  refine ⟨fun s hc _ => ?_, fun s t => step_param_dir_changes⟩
  obtain ⟨p, d, r, f, he⟩ := s.edgeActions_frame s.latch s.prev
  refine ⟨p, d, r, f, by rw [exec_poll_main hc, he], fun hv => ?_, fun hv => ?_⟩
  · have hdir := State.edgeActions_dir_of_twoButton hv s.latch s.prev
    rwa [he] at hdir
  · have hparam := State.edgeActions_param_of_singleSwitch hv s.latch s.prev
    rwa [he] at hparam

end Sys2Proof.Machine
end


section
/-! The family of spec/43_sync_delay.md: what a turn does during a hold, how a hold ends, and SYNC_DELAY 0. -/

namespace Sys2Proof.Machine

/-! The turns of the two contexts, forwards (R61, R81, R205 to R208) -/

/-- When the main context has the turn, the step is that turn, with the turns after it left. -/
theorem step_of_mainTurn {s : State} {ts : List Turn} (h : s.MainTurn ts) :
    step s = mainTurn { s with turns := ts } := by
  rcases h with hturns | ⟨hturns, rfl⟩
  · simp only [step, hturns]; rfl
  · have hsame : ({ s with turns := [] } : State) = s := by rw [← hturns]
    rw [hsame, step, hturns]

/-- A held main context has nothing to do in its turn (R163). -/
theorem mainTurn_of_waiting {s : State} {x : Half} (h : s.sync = .waiting x) : mainTurn s = .next s := by
  simp only [mainTurn, h]

/-- The interrupt port's word is performed in the interrupt context, whatever Sync is, and the main context goes on. -/
theorem step_of_irq {s u : State} {w : CmdWord} {pins : Byte} {ts : List Turn} {i : Instr}
    (hturns : s.turns = .irq w pins :: ts) (hd : decode w = .ok i)
    (he : exec i { s with turns := ts, ctx := .interrupt, pinIn := pins } = .next u) :
    step s = .next { u with ctx := .main } := by
  have hw : performWord w ((s.setTurns ts).takeInterrupt pins) = .next u := (performWord_ok hd _).trans he
  simp only [step, hturns, interruptTurn, hw]
  rfl

theorem decode_tickWord : decode tickWord = .ok .tick := by decide

/-! TICK and the hold (R100, R164) -/

/-- TICK publishes the latch byte of the pins it sees and takes no word from the main port. -/
theorem exec_tick_latch_mainPort {s t : State} (h : exec .tick s = .next t) :
    t.latch = latchByte s.cfg s.pinIn ∧ t.mainPort = s.mainPort := by
  obtain ⟨-, m, f, -, ⟨-, rfl⟩ | ⟨-, rfl⟩⟩ := exec_tick_next h <;> exact ⟨rfl, rfl⟩

/-- An operation of the interrupt context leaves Sync alone, unless it is the TICK that brings the counter to the
target of a hold: that one ends the hold and signals its `done` (R164; C13). -/
theorem exec_interrupt_sync_same_or_release {i : Instr} {s t : State} (hc : s.ctx = .interrupt)
    (h : exec i s = .next t) :
    t.sync = s.sync ∨
      (i = .tick ∧ s.sync = .waiting t.millis ∧ t.sync = .idle ∧ t.mainResp = s.mainResp ++ [.done]) := by
  cases i with
  | now => left; rw [exec_now_next h, State.respond_sync]
  | getEvent => left; rw [exec_getEvent_next h, State.respond_sync]
  | setEvent imm8 => obtain ⟨-, rfl⟩ := exec_setEvent_next h; exact .inl rfl
  | poll => cases hc.symm.trans (exec_poll_next h).1
  | syncDelay offset => cases hc.symm.trans (exec_syncDelay_next h).1
  | write port mask value => cases hc.symm.trans (exec_write_next h).1
  | tick =>
    obtain ⟨-, m, f, -, ⟨-, rfl⟩ | ⟨hm, rfl⟩⟩ := exec_tick_next h
    · exact .inl rfl
    · exact .inr ⟨rfl, hm, rfl, rfl⟩

/-- Settles O47: of the four things a step can do, a held main context only waits, and the interrupt port's word ends
the hold only as the TICK that reaches the target. -/
theorem holdEndsOnlyAtItsTargetOrByReset : Obligations.HoldEndsOnlyAtItsTargetOrByReset := by
  unfold Obligations.HoldEndsOnlyAtItsTargetOrByReset
  intro s t x hx h hne
  rcases step_next h with ⟨ts, -, -, rfl⟩ | ⟨ts, w, ws, i, -, hidle, -, -, -⟩ |
    ⟨w, pins, ts, i, u, hturns, hd, he, rfl⟩ | ⟨ts, hturns, rfl⟩
  · exact absurd hx hne
  · cases hx.symm.trans hidle
  · rcases exec_interrupt_sync_same_or_release rfl he with hsame | ⟨rfl, htarget, hidle, hresp⟩
    · exact absurd (hsame.trans hx) hne
    · obtain rfl := decode_ok_tick hd
      have hreached : u.millis = x := Sync.waiting.inj (htarget.symm.trans hx)
      exact ⟨hidle, .inl ⟨pins, ts, hturns, hreached, hresp⟩⟩
  · exact ⟨rfl, .inr ⟨ts, hturns⟩⟩

/-- Settles O9: the main context's turn is the one of a held context, and the compare-match event's is TICK's. -/
theorem heldMainContextPerformsNothing : Obligations.HeldMainContextPerformsNothing := by
  unfold Obligations.HeldMainContextPerformsNothing
  intro s x ts hx
  refine ⟨fun hmain => (step_of_mainTurn hmain).trans (mainTurn_of_waiting hx), fun pins hturns hl hr => ?_⟩
  obtain ⟨u, hu⟩ := exec_tick_completes (s := { s with turns := ts, ctx := .interrupt, pinIn := pins }) rfl
  have hmillis := exec_tick_millis (s := { s with turns := ts, ctx := .interrupt, pinIn := pins }) hl hr hu
  obtain ⟨hlatch, hport⟩ := exec_tick_latch_mainPort hu
  exact ⟨_, step_of_irq hturns decode_tickWord hu, hmillis, hlatch, hport⟩

/-! SYNC_DELAY 0 (R161) -/

/-- Settles O45: with offset 0 SYNC_DELAY only responds, on the main port. -/
theorem syncDelayZeroReturnsAtOnce : Obligations.SyncDelayZeroReturnsAtOnce := by
  unfold Obligations.SyncDelayZeroReturnsAtOnce
  intro s hc _
  simp only [exec, execSyncDelay, hc, if_true, State.respond_main hc]

end Sys2Proof.Machine
end


section
/-! The family of spec/44_output_latch.md: what a WRITE makes of every output pin. -/

namespace Sys2Proof.Machine

/-- The pins after a masked write of one port: that port's requested pins take the value, all others stay (R181). -/
theorem State.writePort_pinLevel (s : State) (i j : PortIdx) (mask value : Byte) (b : Nat) :
    (s.writePort i mask value).pinLevel j b =
      if i = j ∧ mask.getLsbD b then value.getLsbD b else s.pinLevel j b := by
  simp only [State.pinLevel, State.writePort_ports]
  by_cases hij : i = j
  · subst hij
    simp only [Ports.get_set_same, maskedWrite_getLsbD, true_and]
  · rw [Ports.get_set_other s.ports (Ne.symm hij), if_neg fun h => hij h.1]

/-- In the main context a WRITE to a port that exists completes: it writes that port and signals `done` (R78, R180). -/
theorem exec_write_main {s : State} {port : BitVec 2} {i : PortIdx} (hc : s.ctx = .main)
    (hi : portOfIndex port = some i) (mask value : Byte) :
    exec (.write port mask value) s = .next { s with
      ports := (s.writePort i mask value).ports, mainResp := s.mainResp ++ [.done] } := by
  have hw : exec (.write port mask value) s = .next ((s.writePort i mask value).respond .done) := by
    simp only [exec, execWrite, hi, hc]
  exact hw.trans (congrArg _ (State.respond_main (s := s.writePort i mask value) hc _))

/-- Settles O49: an index other than 3 names a port, and the WRITE is the masked write of that port. -/
theorem writeSetsExactlyTheRequestedBits : Obligations.WriteSetsExactlyTheRequestedBits := by
  unfold Obligations.WriteSetsExactlyTheRequestedBits
  intro s port mask value hc _ hport
  obtain ⟨h3, -⟩ | ⟨-, i, hi⟩ := portOfIndex_cases port
  · exact absurd h3 hport
  · refine ⟨_, exec_write_main hc hi mask value, fun j b => ?_⟩
    simp only [hi, Option.some_inj]
    exact s.writePort_pinLevel i j mask value b

end Sys2Proof.Machine
end


section
/-! The family of spec/30_encoding.md: a row of the opcode map fixes the opcode field, so decoder and encoder undo each
other on exactly the words that some row selects. -/

namespace Sys2Proof

/-! The rows of the opcode map (R77) -/

theorem OpRow.selects_iff {r : OpRow} {w : CmdWord} : r.selects w = true ↔ w &&& r.mask = r.value := by
  simp [OpRow.selects]

/-- Every row's test covers the whole opcode field, so a selected word has the row's opcode. -/
theorem opField_of_selects {r : OpRow} (hr : r ∈ opcodeMap) {w : CmdWord} (h : r.selects w = true) :
    opField w = opField r.value := by
  have hmask : ∀ q ∈ opcodeMap, opField q.mask = BitVec.allOnes 4 := by decide
  calc opField w = opField w &&& opField r.mask := by rw [hmask r hr, BitVec.and_allOnes]
    _ = opField (w &&& r.mask) := BitVec.extractLsb'_and.symm
    _ = opField r.value := by rw [OpRow.selects_iff.mp h]

/-- The row of an operation is one of the map. -/
theorem row_mem_opcodeMap (i : Instr) : Laws.RowMatch.row i ∈ opcodeMap := by
  cases i <;> simp [Laws.RowMatch.row, opcodeMap]

/-- Settles O5: the rows have different opcodes, and a selected word has its row's opcode. -/
theorem opcodeRowsDoNotOverlap : Obligations.OpcodeRowsDoNotOverlap := by
  unfold Obligations.OpcodeRowsDoNotOverlap
  intro w r hr q hq hrw hqw
  have hop : ∀ r ∈ opcodeMap, ∀ q ∈ opcodeMap, opField r.value = opField q.value → r = q := by decide
  exact hop r hr q hq ((opField_of_selects hr hrw).symm.trans (opField_of_selects hq hqw))

/-! Decoding a selected word (R82) -/

theorem checkRow_of_selects {r : OpRow} {w : CmdWord} (h : r.selects w = true) (i : Instr) : checkRow r w i = .ok i :=
  if_pos h

theorem decode_of_selects_rowNow {w : CmdWord} (h : rowNow.selects w = true) : decode w = .ok .now := by
  have hop : opField w = 1 := opField_of_selects (by decide) h
  simp [decode, hop, checkRow_of_selects h]

theorem decode_of_selects_rowGetEvent {w : CmdWord} (h : rowGetEvent.selects w = true) : decode w = .ok .getEvent := by
  have hop : opField w = 2 := opField_of_selects (by decide) h
  simp [decode, hop, checkRow_of_selects h]

theorem decode_of_selects_rowSetEvent {w : CmdWord} (h : rowSetEvent.selects w = true) :
    decode w = .ok (.setEvent (lowByte w)) := by
  have hop : opField w = 3 := opField_of_selects (by decide) h
  simp [decode, hop, checkRow_of_selects h]

theorem decode_of_selects_rowPoll {w : CmdWord} (h : rowPoll.selects w = true) : decode w = .ok .poll := by
  have hop : opField w = 4 := opField_of_selects (by decide) h
  simp [decode, hop, checkRow_of_selects h]

theorem decode_of_selects_rowSyncDelay {w : CmdWord} (h : rowSyncDelay.selects w = true) :
    decode w = .ok (.syncDelay (offsetField w)) := by
  have hop : opField w = 5 := opField_of_selects (by decide) h
  simp [decode, hop, checkRow_of_selects h]

/-- A word WRITE's row selects is that WRITE, or names port 3. -/
theorem decode_of_selects_rowWrite {w : CmdWord} (h : rowWrite.selects w = true) :
    decode w = if portField w = 3 then .error .noSuchPort
      else .ok (.write (portField w) (maskField w) (lowByte w)) := by
  have hop : opField w = 6 := opField_of_selects (by decide) h
  simp [decode, hop, checkRow_of_selects h, Except.bind, checkPort]

theorem decode_of_selects_rowTick {w : CmdWord} (h : rowTick.selects w = true) : decode w = .ok .tick := by
  have hop : opField w = 7 := opField_of_selects (by decide) h
  simp [decode, hop, checkRow_of_selects h]

/-! The operands of an encoded word (R73 to R75) -/

theorem lowByte_encode_setEvent (imm8 : Byte) : lowByte (encode (.setEvent imm8)) = imm8 := by
  ext b hb; interval_cases b <;> simp [lowByte, encode]

theorem offsetField_encode_syncDelay (offset : Half) : offsetField (encode (.syncDelay offset)) = offset := by
  ext b hb; interval_cases b <;> simp [offsetField, encode]

theorem portField_encode_write (port : BitVec 2) (mask value : Byte) :
    portField (encode (.write port mask value)) = port := by
  ext b hb; interval_cases b <;> simp [portField, encode]

theorem maskField_encode_write (port : BitVec 2) (mask value : Byte) :
    maskField (encode (.write port mask value)) = mask := by
  ext b hb; interval_cases b <;> simp [maskField, encode]

theorem lowByte_encode_write (port : BitVec 2) (mask value : Byte) :
    lowByte (encode (.write port mask value)) = value := by
  ext b hb; interval_cases b <;> simp [lowByte, encode]

/-- Settles O2: the word of an operation passes its row's test, and its fields hold the operands. -/
theorem decodeOfEncodeIsTheOperation : Obligations.DecodeOfEncodeIsTheOperation := by
  unfold Obligations.DecodeOfEncodeIsTheOperation
  intro i hwf
  cases i with
  | now => exact decode_of_selects_rowNow Laws.RowMatch.now
  | getEvent => exact decode_of_selects_rowGetEvent Laws.RowMatch.getEvent
  | setEvent imm8 => rw [decode_of_selects_rowSetEvent (Laws.RowMatch.setEvent imm8), lowByte_encode_setEvent]
  | poll => exact decode_of_selects_rowPoll Laws.RowMatch.poll
  | syncDelay offset =>
    rw [decode_of_selects_rowSyncDelay (Laws.RowMatch.syncDelay offset), offsetField_encode_syncDelay]
  | write port mask value =>
    have hport : port ≠ 3 := by simpa [Instr.WellFormed, Instr.wellFormed] using hwf
    rw [decode_of_selects_rowWrite (Laws.RowMatch.write port mask value), portField_encode_write,
      maskField_encode_write, lowByte_encode_write, if_neg hport]
  | tick => exact decode_of_selects_rowTick Laws.RowMatch.tick

/-! The word of a decoded operation (R82) -/

theorem zext24_lowByte (w : CmdWord) : zext24 (lowByte w) = w &&& 0x0000FF := by
  ext b hb; interval_cases b <;> simp [lowByte]

theorem zext24_offsetField (w : CmdWord) : zext24 (offsetField w) = w &&& 0x00FFFF := by
  ext b hb; interval_cases b <;> simp [offsetField]

theorem zext24_maskField (w : CmdWord) : zext24 (maskField w) <<< 8 = w &&& 0x00FF00 := by
  ext b hb; interval_cases b <;> simp [maskField]

theorem zext24_portField (w : CmdWord) : zext24 (portField w) <<< 16 = w &&& 0x030000 := by
  ext b hb; interval_cases b <;> simp [portField]

/-- A row that fixes every bit selects its value alone. -/
theorem eq_value_of_selects {r : OpRow} {w : CmdWord} (hr : r.mask = BitVec.allOnes 24) (h : r.selects w = true) :
    r.value = w := by
  rw [← OpRow.selects_iff.mp h, hr, BitVec.and_allOnes]

theorem encode_setEvent_of_selects {w : CmdWord} (h : rowSetEvent.selects w = true) :
    encode (.setEvent (lowByte w)) = w := by
  calc encode (.setEvent (lowByte w)) = rowSetEvent.value ||| zext24 (lowByte w) := rfl
    _ = w &&& rowSetEvent.mask ||| w &&& 0x0000FF := by rw [OpRow.selects_iff.mp h, zext24_lowByte]
    _ = w &&& BitVec.allOnes 24 := BitVec.and_or_distrib_left.symm
    _ = w := BitVec.and_allOnes

theorem encode_syncDelay_of_selects {w : CmdWord} (h : rowSyncDelay.selects w = true) :
    encode (.syncDelay (offsetField w)) = w := by
  calc encode (.syncDelay (offsetField w)) = rowSyncDelay.value ||| zext24 (offsetField w) := rfl
    _ = w &&& rowSyncDelay.mask ||| w &&& 0x00FFFF := by rw [OpRow.selects_iff.mp h, zext24_offsetField]
    _ = w &&& BitVec.allOnes 24 := BitVec.and_or_distrib_left.symm
    _ = w := BitVec.and_allOnes

theorem encode_write_of_selects {w : CmdWord} (h : rowWrite.selects w = true) :
    encode (.write (portField w) (maskField w) (lowByte w)) = w := by
  calc encode (.write (portField w) (maskField w) (lowByte w)) =
      rowWrite.value ||| zext24 (portField w) <<< 16 ||| zext24 (maskField w) <<< 8 ||| zext24 (lowByte w) := rfl
    _ = w &&& rowWrite.mask ||| w &&& 0x030000 ||| w &&& 0x00FF00 ||| w &&& 0x0000FF := by
      rw [OpRow.selects_iff.mp h, zext24_portField, zext24_maskField, zext24_lowByte]
    _ = w &&& BitVec.allOnes 24 := by simp only [← BitVec.and_or_distrib_left]; rfl
    _ = w := BitVec.and_allOnes

/-- Settles O3: a decoded word passes the row's test of its operation, and row and operands make up the whole word. -/
theorem encodeOfDecodeIsTheWord : Obligations.EncodeOfDecodeIsTheWord := by
  unfold Obligations.EncodeOfDecodeIsTheWord
  intro w i h
  have hrow := Machine.decode_ok_selects_row h
  cases i with
  | now => exact ⟨rfl, eq_value_of_selects (r := rowNow) rfl hrow⟩
  | getEvent => exact ⟨rfl, eq_value_of_selects (r := rowGetEvent) rfl hrow⟩
  | setEvent imm8 =>
    cases h.symm.trans (decode_of_selects_rowSetEvent hrow)
    exact ⟨rfl, encode_setEvent_of_selects hrow⟩
  | poll => exact ⟨rfl, eq_value_of_selects (r := rowPoll) rfl hrow⟩
  | syncDelay offset =>
    cases h.symm.trans (decode_of_selects_rowSyncDelay hrow)
    exact ⟨rfl, encode_syncDelay_of_selects hrow⟩
  | write port mask value =>
    rw [decode_of_selects_rowWrite hrow] at h
    split at h
    · cases h
    · next hport =>
      cases h
      exact ⟨bne_iff_ne.mpr hport, encode_write_of_selects hrow⟩
  | tick => exact ⟨rfl, eq_value_of_selects (r := rowTick) rfl hrow⟩

/-! The words `decode` rejects (R80, R82) -/

theorem decode_ne_reservedEncoding_of_selects {r : OpRow} (hr : r ∈ opcodeMap) {w : CmdWord}
    (h : r.selects w = true) : decode w ≠ .error .reservedEncoding := by
  simp only [opcodeMap, List.mem_cons, List.not_mem_nil, or_false] at hr
  rcases hr with rfl | rfl | rfl | rfl | rfl | rfl | rfl
  · simp [decode_of_selects_rowNow h]
  · simp [decode_of_selects_rowGetEvent h]
  · simp [decode_of_selects_rowSetEvent h]
  · simp [decode_of_selects_rowPoll h]
  · simp [decode_of_selects_rowSyncDelay h]
  · rw [decode_of_selects_rowWrite h]; split <;> simp
  · simp [decode_of_selects_rowTick h]

theorem checkRow_ne_noSuchPort (r : OpRow) (w : CmdWord) (i : Instr) : checkRow r w i ≠ .error .noSuchPort := by
  unfold checkRow; split <;> simp

/-- Only a word WRITE's row selects can be refused for its port. -/
theorem rowWrite_selects_of_noSuchPort {w : CmdWord} (h : decode w = .error .noSuchPort) :
    rowWrite.selects w = true := by
  unfold decode at h
  split at h
  case h_6 =>
    by_contra hw
    rw [checkRow, if_neg hw] at h
    cases h
  case h_8 => cases h
  all_goals exact absurd h (checkRow_ne_noSuchPort _ _ _)

theorem decode_noSuchPort_iff {w : CmdWord} :
    decode w = .error .noSuchPort ↔ rowWrite.selects w = true ∧ portField w = 3 := by
  constructor
  · intro h
    have hrow := rowWrite_selects_of_noSuchPort h
    rw [decode_of_selects_rowWrite hrow] at h
    split at h
    · next hport => exact ⟨hrow, hport⟩
    · cases h
  · rintro ⟨hrow, hport⟩
    rw [decode_of_selects_rowWrite hrow, if_pos hport]

/-- WRITE's row and its port 3 together fix the upper byte of the word. -/
theorem rowWrite_selects_port3_iff (w : CmdWord) :
    rowWrite.selects w = true ∧ portField w = 3 ↔ w &&& 0xFF0000 = 0x630000 := by
  rw [OpRow.selects_iff]
  constructor
  · rintro ⟨hrow, hport⟩
    calc w &&& 0xFF0000 = w &&& (rowWrite.mask ||| 0x030000) := rfl
      _ = w &&& rowWrite.mask ||| zext24 (portField w) <<< 16 := by
        rw [BitVec.and_or_distrib_left, zext24_portField]
      _ = 0x630000 := by rw [hrow, hport]; rfl
  · intro h
    constructor
    · calc w &&& rowWrite.mask = w &&& (0xFF0000 &&& rowWrite.mask) := rfl
        _ = rowWrite.value := by rw [← BitVec.and_assoc, h]; rfl
    · calc portField w = portField w &&& portField 0xFF0000 := (BitVec.and_allOnes (x := portField w)).symm
        _ = portField (w &&& 0xFF0000) := BitVec.extractLsb'_and.symm
        _ = 3 := by rw [h]; rfl

/-- Settles O4: a selected word decodes or names port 3, and a decoded or port-3 word is selected. -/
theorem rejectedWordsAreExactlyThese : Obligations.RejectedWordsAreExactlyThese := by
  unfold Obligations.RejectedWordsAreExactlyThese
  intro w
  refine ⟨⟨fun h r hr => ?_, fun h => ?_⟩, decode_noSuchPort_iff.trans (rowWrite_selects_port3_iff w)⟩
  · by_contra hsel
    exact decode_ne_reservedEncoding_of_selects hr (by simpa using hsel) h
  · cases hd : decode w with
    | ok i =>
      have hsel := h _ (row_mem_opcodeMap i)
      rw [Machine.decode_ok_selects_row hd] at hsel
      cases hsel
    | error e =>
      cases e with
      | reservedEncoding => rfl
      | noSuchPort =>
        have hsel := h rowWrite (by decide)
        rw [rowWrite_selects_of_noSuchPort hd] at hsel
        cases hsel

/-- Settles O1: each of the spec's words is decoded by evaluation. -/
theorem decodeReadsTheSpecsWords : Obligations.DecodeReadsTheSpecsWords := by
  unfold Obligations.DecodeReadsTheSpecsWords
  decide

end Sys2Proof
end


section
/-! What one operation and one step do, forwards: the words the two ports take, what is refused, what completion
signals, and what no operation touches (spec/30_encoding.md, spec/60_exceptions.md). -/

namespace Sys2Proof.Machine

/-! Taking a word (R70, R81, R82) -/

theorem performWord_reserved {w : CmdWord} (h : decode w = .error .reservedEncoding) (s : State) :
    performWord w s = .refused .reservedEncoding := by
  simp only [performWord, h]

theorem performWord_noSuchPort {w : CmdWord} (h : decode w = .error .noSuchPort) (s : State) :
    performWord w s = .refused .noSuchPort := by
  simp only [performWord, h]

/-- The main context's turn with Sync = Idle performs the presented word. -/
theorem step_of_mainWord {s : State} {ts : List Turn} {w : CmdWord} {ws : List CmdWord} (hmain : s.MainTurn ts)
    (hidle : s.sync = .idle) (hport : s.mainPort = w :: ws) :
    step s = performWord w { s with turns := ts, mainPort := ws, ctx := .main } := by
  rw [step_of_mainTurn hmain]
  simp only [mainTurn, hidle, hport]
  rfl

/-- A word the interrupt port presents is refused as it is performed. -/
theorem step_of_irq_refused {s : State} {w : CmdWord} {pins : Byte} {ts : List Turn} {r : Refusal}
    (hturns : s.turns = .irq w pins :: ts)
    (hw : performWord w { s with turns := ts, ctx := .interrupt, pinIn := pins } = .refused r) :
    step s = .refused r := by
  have hw' : performWord w ((s.setTurns ts).takeInterrupt pins) = .refused r := hw
  simp only [step, hturns, interruptTurn, hw']

/-- Settles O6: the turn performs the word, and a word that decodes is its operation. -/
theorem mainTurnRunsThePresentedWord : Obligations.MainTurnRunsThePresentedWord := by
  unfold Obligations.MainTurnRunsThePresentedWord
  intro s ts w ws i hmain hidle hport hd
  rw [step_of_mainWord hmain hidle hport, performWord_ok hd]

/-- Settles O7: the two outcomes of the interrupt port's turn. -/
theorem interruptTurnRunsThePresentedWord : Obligations.InterruptTurnRunsThePresentedWord := by
  unfold Obligations.InterruptTurnRunsThePresentedWord
  intro s ts w pins i hturns hd
  exact ⟨fun t he => step_of_irq hturns hd he,
    fun r he => step_of_irq_refused hturns ((performWord_ok hd _).trans he)⟩

/-- Settles O8: on either port the step comes to performing the word. -/
theorem wordsThatAreNoOperationAreRefused : Obligations.WordsThatAreNoOperationAreRefused := by
  unfold Obligations.WordsThatAreNoOperationAreRefused
  intro s ts w ws pins htaken
  have hstep : ∀ r, (∀ u, performWord w u = .refused r) → step s = .refused r := by
    intro r hr
    rcases htaken with ⟨hmain, hidle, hport⟩ | hturns
    · exact (step_of_mainWord hmain hidle hport).trans (hr _)
    · exact step_of_irq_refused hturns (hr _)
  exact ⟨fun hd => hstep _ (performWord_reserved hd), fun hd => hstep _ (performWord_noSuchPort hd)⟩

/-! The operations that only read, and SET_EVENT (R105, R120, R123) -/

theorem exec_now (s : State) : exec .now s = .next (s.respond (.done16 s.millis)) := rfl

theorem exec_getEvent (s : State) : exec .getEvent s = .next (s.respond (.done8 s.latch)) := rfl

theorem exec_setEvent_interrupt {s : State} (hc : s.ctx = .interrupt) (imm8 : Byte) :
    exec (.setEvent imm8) s = .next { s with latch := imm8, irqResp := s.irqResp ++ [.done] } := by
  have he : exec (.setEvent imm8) s = .next ((s.publishEvent imm8).respond .done) := by
    simp only [exec, execSetEvent, hc]
  exact he.trans (congrArg _ (State.respond_interrupt (s := s.publishEvent imm8) hc _))

/-- Settles O25: NOW responds with the counter, on the port of its context. -/
theorem nowReturnsTheCounter : Obligations.NowReturnsTheCounter := by
  unfold Obligations.NowReturnsTheCounter
  intro s
  exact ⟨fun hc _ => by rw [exec_now, State.respond_main hc], fun hc => by rw [exec_now, State.respond_interrupt hc]⟩

/-- Settles O27: GET_EVENT responds with the latch, on the port of its context. -/
theorem getEventReturnsTheLatch : Obligations.GetEventReturnsTheLatch := by
  unfold Obligations.GetEventReturnsTheLatch
  intro s
  exact ⟨fun hc _ => by rw [exec_getEvent, State.respond_main hc],
    fun hc => by rw [exec_getEvent, State.respond_interrupt hc]⟩

/-- Settles O28: in the interrupt context SET_EVENT publishes its byte and responds. -/
theorem setEventPublishesItsByte : Obligations.SetEventPublishesItsByte := by
  unfold Obligations.SetEventPublishesItsByte
  exact fun imm8 s hc => exec_setEvent_interrupt hc imm8

/-! What is refused, operation by operation (R79, R80, R165, R184) -/

theorem exec_setEvent_refused_iff {s : State} {imm8 : Byte} {r : Refusal} :
    exec (.setEvent imm8) s = .refused r ↔ r = .wrongContext ∧ s.ctx = .main := by
  rcases s.ctx.main_or_interrupt with hc | hc <;> simp [exec, execSetEvent, hc, eq_comm (b := r)]

theorem exec_tick_refused_iff {s : State} {r : Refusal} :
    exec .tick s = .refused r ↔ r = .wrongContext ∧ s.ctx = .main := by
  rcases s.ctx.main_or_interrupt with hc | hc <;> simp [exec, execTick, hc, eq_comm (b := r)]

theorem exec_poll_refused_iff {s : State} {r : Refusal} :
    exec .poll s = .refused r ↔ r = .wrongContext ∧ s.ctx = .interrupt := by
  rcases s.ctx.main_or_interrupt with hc | hc <;> simp [exec, execPoll, hc, eq_comm (b := r)]

theorem exec_syncDelay_refused_iff {s : State} {offset : Half} {r : Refusal} :
    exec (.syncDelay offset) s = .refused r ↔
      (r = .wrongContext ∧ s.ctx = .interrupt) ∨
      (r = .offsetOutOfContract ∧ s.ctx = .main ∧ offset ≠ 0 ∧ s.cfg.period ≤ offset.toNat) := by
  rcases s.ctx.main_or_interrupt with hc | hc
  · by_cases h0 : offset = 0#16
    · simp [exec, execSyncDelay, hc, h0]
    · by_cases hp : s.cfg.period ≤ offset.toNat <;> simp [exec, execSyncDelay, hc, h0, hp, eq_comm (b := r)]
  · simp [exec, execSyncDelay, hc, eq_comm (b := r)]

theorem exec_write_port3 (mask value : Byte) (s : State) : exec (.write 3 mask value) s = .refused .noSuchPort := rfl

theorem exec_write_refused_iff {s : State} {port : BitVec 2} {mask value : Byte} {r : Refusal} :
    exec (.write port mask value) s = .refused r ↔
      (r = .noSuchPort ∧ port = 3) ∨ (r = .wrongContext ∧ s.ctx = .interrupt ∧ port ≠ 3) := by
  rcases portOfIndex_cases port with ⟨rfl, -⟩ | ⟨h3, j, hj⟩
  · rw [exec_write_port3]; simp [eq_comm]
  · have h3' : port ≠ 3#2 := h3
    rcases s.ctx.main_or_interrupt with hc | hc <;> simp [exec, execWrite, hj, h3', hc, eq_comm (b := r)]

/-- Settles O11: the refusals of each operation are among those of R202, and no clause names another operation. -/
theorem operationsAreRefusedExactlyWhen : Obligations.OperationsAreRefusedExactlyWhen := by
  unfold Obligations.OperationsAreRefusedExactlyWhen
  intro i s r
  cases i with
  | now => simp [exec_now]
  | getEvent => simp [exec_getEvent]
  | setEvent imm8 => rw [exec_setEvent_refused_iff]; simp
  | poll => rw [exec_poll_refused_iff]; simp
  | syncDelay offset => rw [exec_syncDelay_refused_iff]; simp
  | write port mask value => rw [exec_write_refused_iff]; simp
  | tick => rw [exec_tick_refused_iff]; simp

/-- The closed list of R202. -/
def Refusal.Named (r : Refusal) : Prop :=
  r ∈ [Refusal.reservedEncoding, .noSuchPort, .wrongContext, .offsetOutOfContract]

/-- An outcome R202 allows: a next state, or a refusal of the closed list. -/
def CompletesOrRefused (o : Host.Outcome State Fault Refusal) : Prop :=
  (∃ t, o = .next t) ∨ ∃ r, r.Named ∧ o = .refused r

/-- There is no fault, so an outcome is settled by what its refusals are (R201). -/
theorem completesOrRefused_of_refusals {o : Host.Outcome State Fault Refusal}
    (h : ∀ r, o = .refused r → r.Named) : CompletesOrRefused o := by
  cases o with
  | next t => exact .inl ⟨t, rfl⟩
  | fault r => cases r
  | refused r => exact .inr ⟨r, h r rfl, rfl⟩

theorem exec_completesOrRefused (i : Instr) (s : State) : CompletesOrRefused (exec i s) := by
  refine completesOrRefused_of_refusals fun r h => ?_
  rcases (operationsAreRefusedExactlyWhen i s r).mp h with ⟨rfl, -⟩ | ⟨rfl, -⟩ | ⟨rfl, -⟩ | ⟨rfl, -⟩ <;>
    simp [Refusal.Named]

theorem performWord_completesOrRefused (w : CmdWord) (s : State) : CompletesOrRefused (performWord w s) := by
  cases hd : decode w with
  | ok i => rw [performWord_ok hd]; exact exec_completesOrRefused i s
  | error e =>
    cases e with
    | reservedEncoding => exact .inr ⟨_, by simp [Refusal.Named], performWord_reserved hd s⟩
    | noSuchPort => exact .inr ⟨_, by simp [Refusal.Named], performWord_noSuchPort hd s⟩

theorem mainTurn_completesOrRefused (s : State) : CompletesOrRefused (mainTurn s) := by
  unfold mainTurn
  split
  · exact .inl ⟨_, rfl⟩
  · split
    · exact .inl ⟨_, rfl⟩
    · exact performWord_completesOrRefused _ _

theorem interruptTurn_completesOrRefused (w : CmdWord) (pins : Byte) (s : State) :
    CompletesOrRefused (interruptTurn w pins s) := by
  unfold interruptTurn
  rcases performWord_completesOrRefused w (s.takeInterrupt pins) with ⟨t, ht⟩ | ⟨r, hr, hw⟩
  · rw [ht]; exact .inl ⟨_, rfl⟩
  · rw [hw]; exact .inr ⟨r, hr, rfl⟩

theorem step_completesOrRefused (s : State) : CompletesOrRefused (step s) := by
  unfold step
  split
  · exact mainTurn_completesOrRefused _
  · exact mainTurn_completesOrRefused _
  · exact interruptTurn_completesOrRefused _ _ _
  · exact .inl ⟨_, rfl⟩

/-- Settles O53: an operation by its refusals, a step by those of the word it takes. -/
theorem everyStepCompletesOrIsRefusedByName : Obligations.EveryStepCompletesOrIsRefusedByName := by
  unfold Obligations.EveryStepCompletesOrIsRefusedByName
  exact fun i s => ⟨exec_completesOrRefused i s, step_completesOrRefused s⟩

/-- Settles O10: no constructor gives a cause. -/
theorem noExceptionCauseExists : Obligations.NoExceptionCauseExists := by
  unfold Obligations.NoExceptionCauseExists
  exact ⟨fun r => nomatch r⟩

/-! What completion signals (R78) -/

/-- From `s` to `t` the port of the issuing context signals `r`; in the main context the other port is silent. -/
def State.Signals (s t : State) (r : Response) : Prop :=
  (s.ctx = .main → t.irqResp = s.irqResp ∧ t.mainResp = s.mainResp ++ [r]) ∧
  (s.ctx = .interrupt → t.irqResp = s.irqResp ++ [r])

theorem State.signals_respond (s : State) (r : Response) : s.Signals (s.respond r) r := by
  constructor
  · intro hc; rw [State.respond_main hc]; exact ⟨rfl, rfl⟩
  · intro hc; rw [State.respond_interrupt hc]

theorem State.signals_of_main {s t : State} {r : Response} (hc : s.ctx = .main) (hi : t.irqResp = s.irqResp)
    (hm : t.mainResp = s.mainResp ++ [r]) : s.Signals t r :=
  ⟨fun _ => ⟨hi, hm⟩, fun hc' => by cases hc.symm.trans hc'⟩

theorem State.signals_of_interrupt {s t : State} {r : Response} (hc : s.ctx = .interrupt)
    (hi : t.irqResp = s.irqResp ++ [r]) : s.Signals t r :=
  ⟨fun hc' => by (cases hc.symm.trans hc'), fun _ => hi⟩

/-- Settles O12: each operation's completion signals its result, and only the beginning of a hold signals nothing. -/
theorem completionSignalsTheResult : Obligations.CompletionSignalsTheResult := by
  unfold Obligations.CompletionSignalsTheResult
  intro i s t h
  by_cases hhold : ∃ offset, offset ≠ 0 ∧ i = .syncDelay offset
  · refine ⟨fun _ => ?_, fun hn => absurd hhold hn⟩
    obtain ⟨offset, h0, rfl⟩ := hhold
    obtain ⟨-, ⟨h0', -⟩ | ⟨-, -, rfl⟩⟩ := exec_syncDelay_next h
    · exact absurd h0' h0
    · exact ⟨rfl, rfl⟩
  refine ⟨fun hy => absurd hy hhold, fun _ => ?_⟩
  cases i with
  | now => rw [exec_now_next h]; exact s.signals_respond _
  | getEvent => rw [exec_getEvent_next h]; exact s.signals_respond _
  | setEvent imm8 => obtain ⟨hc, rfl⟩ := exec_setEvent_next h; exact State.signals_of_interrupt hc rfl
  | poll => obtain ⟨hc, p, d, r, f, -, rfl⟩ := exec_poll_next h; exact State.signals_of_main hc rfl rfl
  | syncDelay offset =>
    obtain ⟨hc, ⟨-, rfl⟩ | ⟨h0, -⟩⟩ := exec_syncDelay_next h
    · exact State.signals_of_main hc rfl rfl
    · exact absurd ⟨offset, h0, rfl⟩ hhold
  | write port mask value => obtain ⟨hc, j, -, rfl⟩ := exec_write_next h; exact State.signals_of_main hc rfl rfl
  | tick => obtain ⟨hc, m, f, -, ⟨-, rfl⟩ | ⟨-, rfl⟩⟩ := exec_tick_next h <;> exact State.signals_of_interrupt hc rfl

/-! What no operation touches: the build, the context and the inputs (R2, R6, R30) -/

/-- The fields of State that the outside fixes. -/
structure State.SameOutside (s t : State) : Prop where
  cfg : t.cfg = s.cfg
  ctx : t.ctx = s.ctx
  turns : t.turns = s.turns
  mainPort : t.mainPort = s.mainPort
  pinIn : t.pinIn = s.pinIn

/-- An operation that completes touches none of them. -/
theorem exec_sameOutside {i : Instr} {s t : State} (h : exec i s = .next t) : s.SameOutside t := by
  cases i with
  | now => rw [exec_now_next h]; constructor <;> simp
  | getEvent => rw [exec_getEvent_next h]; constructor <;> simp
  | setEvent imm8 => obtain ⟨-, rfl⟩ := exec_setEvent_next h; constructor <;> rfl
  | poll => obtain ⟨-, p, d, r, f, -, rfl⟩ := exec_poll_next h; constructor <;> rfl
  | syncDelay offset => obtain ⟨-, ⟨-, rfl⟩ | ⟨-, -, rfl⟩⟩ := exec_syncDelay_next h <;> constructor <;> rfl
  | write port mask value => obtain ⟨-, j, -, rfl⟩ := exec_write_next h; constructor <;> rfl
  | tick => obtain ⟨-, m, f, -, ⟨-, rfl⟩ | ⟨-, rfl⟩⟩ := exec_tick_next h <;> constructor <;> rfl

theorem step_cfg {s t : State} (h : step s = .next t) : t.cfg = s.cfg := by
  rcases step_next h with ⟨ts, -, -, rfl⟩ | ⟨ts, w, ws, i, -, -, -, -, he⟩ |
    ⟨w, pins, ts, i, u, -, -, he, rfl⟩ | ⟨ts, -, rfl⟩
  · rfl
  · exact (exec_sameOutside he).cfg
  · exact (exec_sameOutside he).cfg
  · rfl

/-- A run of one step more begins with a step. -/
theorem run_succ_next {n : Nat} {s t : State} (h : Host.Core.run Sys2Proof.core (n + 1) s = .next t) :
    ∃ u, step s = .next u ∧ Host.Core.run Sys2Proof.core n u = .next t := by
  cases hs : step s with
  | next u => rw [run_step hs] at h; exact ⟨u, rfl, h⟩
  | fault r => cases r
  | refused r => rw [run_refused hs] at h; cases h

/-- What every step keeps, every run keeps. -/
theorem run_keeps {P : State → Prop} (hstep : ∀ s t, P s → step s = .next t → P t) {n : Nat} {s t : State}
    (hs : P s) (h : Host.Core.run Sys2Proof.core n s = .next t) : P t := by
  induction n generalizing s with
  | zero => cases h; exact hs
  | succ n ih =>
    obtain ⟨u, hu, hrun⟩ := run_succ_next h
    exact ih (hstep s u hs hu) hrun

/-- Settles O18: no step changes the build. -/
theorem noRunChangesTheBuild : Obligations.NoRunChangesTheBuild := by
  unfold Obligations.NoRunChangesTheBuild
  intro n s t h
  exact run_keeps (P := fun u => u.cfg = s.cfg) (fun u v hu huv => (step_cfg huv).trans hu) rfl h

/-! Who writes which cell (R28, R62) -/

/-- An operation of the main context leaves the counter and the latch alone. -/
theorem exec_main_keeps_clock_cells {i : Instr} {s t : State} (hc : s.ctx = .main) (h : exec i s = .next t) :
    t.millis = s.millis ∧ t.latch = s.latch := by
  cases i with
  | now => rw [exec_now_next h]; simp
  | getEvent => rw [exec_getEvent_next h]; simp
  | setEvent imm8 => cases hc.symm.trans (exec_setEvent_next h).1
  | poll => obtain ⟨-, p, d, r, f, -, rfl⟩ := exec_poll_next h; exact ⟨rfl, rfl⟩
  | syncDelay offset => obtain ⟨-, ⟨-, rfl⟩ | ⟨-, -, rfl⟩⟩ := exec_syncDelay_next h <;> exact ⟨rfl, rfl⟩
  | write port mask value => obtain ⟨-, j, -, rfl⟩ := exec_write_next h; exact ⟨rfl, rfl⟩
  | tick => cases hc.symm.trans (exec_tick_next h).1

/-- An operation of the interrupt context leaves the edge decoder's cells, the ports and the Refresh events alone. -/
theorem exec_interrupt_keeps_main_cells {i : Instr} {s t : State} (hc : s.ctx = .interrupt) (h : exec i s = .next t) :
    t.prev = s.prev ∧ t.param = s.param ∧ t.dir = s.dir ∧ t.ports = s.ports ∧ t.refreshes = s.refreshes := by
  cases i with
  | now => rw [exec_now_next h]; simp
  | getEvent => rw [exec_getEvent_next h]; simp
  | setEvent imm8 => obtain ⟨-, rfl⟩ := exec_setEvent_next h; exact ⟨rfl, rfl, rfl, rfl, rfl⟩
  | poll => cases hc.symm.trans (exec_poll_next h).1
  | syncDelay offset => cases hc.symm.trans (exec_syncDelay_next h).1
  | write port mask value => cases hc.symm.trans (exec_write_next h).1
  | tick => obtain ⟨-, m, f, -, ⟨-, rfl⟩ | ⟨-, rfl⟩⟩ := exec_tick_next h <;> exact ⟨rfl, rfl, rfl, rfl, rfl⟩

/-- Settles O52: what each context's operations leave alone, with the release as the one way the interrupt context
reaches Sync. -/
theorem eachCellHasOneWritingContext : Obligations.EachCellHasOneWritingContext := by
  unfold Obligations.EachCellHasOneWritingContext
  intro i s t h
  refine ⟨fun hc => exec_main_keeps_clock_cells hc h, fun hc => ?_⟩
  obtain ⟨hprev, hparam, hdir, hports, -⟩ := exec_interrupt_keeps_main_cells hc h
  refine ⟨hprev, hparam, hdir, hports, ?_⟩
  rcases exec_interrupt_sync_same_or_release hc h with hsame | ⟨-, htarget, hidle, -⟩
  · exact .inl hsame
  · exact .inr ⟨htarget, hidle⟩

end Sys2Proof.Machine
end


section
/-! The families of spec/40_clock.md and spec/41_event_latch.md: the state a compare-match event leaves, in every state
and in a legal in-range one, and runs of such events. -/

namespace Sys2Proof.Machine

/-! TICK as one update of the state (R100 to R103, R164) -/

/-- The counter and the count of free values after a TICK, from what TICK reads of the state (R101; log entry 8). -/
def counterStep (c : Config) (millis : Half) (freeIdx : Nat) : Half × Nat :=
  if millis.toNat + 1 = c.period then (0, freeIdx)
  else if millis.toNat + 1 < 65536 then (millis + 1, freeIdx)
  else (Config.freeCounter freeIdx, freeIdx + 1)

/-- MillisCounter after the next TICK. -/
def State.nextMillis (s : State) : Half := (counterStep s.cfg s.millis s.freeIdx).1

/-- The count of free values after the next TICK. -/
def State.nextFreeIdx (s : State) : Nat := (counterStep s.cfg s.millis s.freeIdx).2

/-- The state TICK leaves when PinIn shows `pins`: counter, latch, release and response (R100). -/
def State.ticked (s : State) (pins : Byte) : State :=
  { s with
    millis := s.nextMillis, freeIdx := s.nextFreeIdx, latch := latchByte s.cfg pins, pinIn := pins
    sync := if s.sync = .waiting s.nextMillis then .idle else s.sync
    mainResp := if s.sync = .waiting s.nextMillis then s.mainResp ++ [.done] else s.mainResp
    irqResp := s.irqResp ++ [.done] }

theorem State.advanceCounter_eq (s : State) :
    s.advanceCounter = { s with millis := s.nextMillis, freeIdx := s.nextFreeIdx } := by
  unfold State.advanceCounter State.nextMillis State.nextFreeIdx counterStep
  split
  · rfl
  · split <;> rfl

/-- From a counter in range, in a legal build, the step of the counter is the addition modulo PERIOD (R101). -/
theorem State.nextMillis_inRange {s : State} (hl : s.cfg.Legal) (hr : s.CounterInRange) :
    s.nextMillis = BitVec.ofNat 16 ((s.millis.toNat + 1) % s.cfg.period) ∧ s.nextFreeIdx = s.freeIdx := by
  have h := s.advanceCounter_eq.symm.trans (State.advanceCounter_inRange hl hr)
  exact ⟨congrArg State.millis h, congrArg State.freeIdx h⟩

/-- In the interrupt context TICK completes and leaves `State.ticked`, in every state. -/
theorem exec_tick_interrupt {s : State} (hc : s.ctx = .interrupt) : exec .tick s = .next (s.ticked s.pinIn) := by
  obtain ⟨t, ht⟩ := exec_tick_completes hc
  obtain ⟨-, m, f, ha, hcases⟩ := exec_tick_next ht
  have hadv := ha.symm.trans s.advanceCounter_eq
  obtain rfl : m = s.nextMillis := congrArg State.millis hadv
  obtain rfl : f = s.nextFreeIdx := congrArg State.freeIdx hadv
  rw [ht, State.ticked]
  rcases hcases with ⟨hs, rfl⟩ | ⟨hs, rfl⟩
  · simp only [if_neg hs]
  · simp only [if_pos hs]

/-- Settles O20: in range the counter step is the addition modulo PERIOD and draws no free value. -/
theorem tickCompletesWithCounterLatchAndRelease : Obligations.TickCompletesWithCounterLatchAndRelease := by
  unfold Obligations.TickCompletesWithCounterLatchAndRelease
  intro s hc hl hr
  obtain ⟨hm, hf⟩ := State.nextMillis_inRange hl hr
  rw [exec_tick_interrupt hc, State.ticked, hm, hf]
  rfl

/-- Settles O22: the frame is that of the update, and the release is its one condition. -/
theorem tickFrame : Obligations.TickFrame := by
  unfold Obligations.TickFrame
  intro s hc
  refine ⟨_, exec_tick_interrupt hc, rfl, rfl, rfl, rfl, rfl, rfl, rfl, rfl, rfl, rfl, ?_⟩
  by_cases hs : s.sync = .waiting s.nextMillis
  · exact .inr ⟨hs, if_pos hs, if_pos hs⟩
  · exact .inl ⟨if_neg hs, if_neg hs⟩

/-! The compare-match event (R31, R205 to R208) -/

/-- The step of a compare-match event, in every state: TICK's update, and the main context goes on. -/
theorem step_compareMatch {s : State} {pins : Byte} {ts : List Turn} (hturns : s.turns = Turn.compareMatch pins :: ts) :
    step s = .next { s.ticked pins with turns := ts, ctx := .main } :=
  step_of_irq hturns decode_tickWord (exec_tick_interrupt rfl)

/-- With no hold, TICK touches neither Sync nor the main port. -/
theorem State.ticked_eq_of_idle {s : State} (hidle : s.sync = .idle) (pins : Byte) :
    s.ticked pins = { s with
      millis := s.nextMillis, freeIdx := s.nextFreeIdx, latch := latchByte s.cfg pins, pinIn := pins
      irqResp := s.irqResp ++ [.done] } := by
  have hnone : ¬ s.sync = .waiting s.nextMillis := by rw [hidle]; simp
  simp only [State.ticked, if_neg hnone]

/-- The counter after a compare-match event in range, as a number. -/
theorem State.ticked_millis_toNat {s : State} (hl : s.cfg.Legal) (hr : s.CounterInRange) (pins : Byte) :
    (s.ticked pins).millis.toNat = (s.millis.toNat + 1) % s.cfg.period :=
  exec_tick_millis (s := { s with ctx := .interrupt, pinIn := pins }) (t := { s.ticked pins with ctx := .interrupt })
    hl hr (exec_tick_interrupt rfl)

/-- In a legal build a compare-match event keeps the counter in range (R104 (b)). -/
theorem State.ticked_counterInRange {s : State} (hl : s.cfg.Legal) (hr : s.CounterInRange) (pins : Byte) :
    (s.ticked pins).CounterInRange := by
  unfold State.CounterInRange
  rw [State.ticked_millis_toNat hl hr]
  exact Nat.mod_lt _ (by have := hl.1; omega)

/-- Settles O29: TICK writes latch and pins and reads neither from the state before. -/
theorem overwrittenSampleLeavesNoTrace : Obligations.OverwrittenSampleLeavesNoTrace := by
  unfold Obligations.OverwrittenSampleLeavesNoTrace
  intro s lost lost' kept rest
  rw [run_step (step_compareMatch rfl), run_step (step_compareMatch rfl), run_step (step_compareMatch rfl),
    run_step (step_compareMatch rfl)]
  rfl

/-- Only the watched pins reach the latch (R102). -/
theorem latchByte_congr {c : Config} {pins pins' : Byte} (h : pins &&& watchMask c = pins' &&& watchMask c) :
    latchByte c pins = latchByte c pins' := by
  have hsplit : ∀ p : Byte, latchByte c p = ~~~(p &&& watchMask c) &&& watchMask c := by
    intro p
    ext b
    simp only [latchByte, BitVec.getElem_and, BitVec.getElem_not]
    cases p[b] <;> simp
  rw [hsplit, hsplit, h]

/-- Settles O30: the two events leave the same latch, and the pins enter nothing else. -/
theorem unwatchedPinsAreInert : Obligations.UnwatchedPinsAreInert := by
  unfold Obligations.UnwatchedPinsAreInert
  intro s t pins pins' ts hpins ht
  rw [step_compareMatch rfl] at ht ⊢
  cases ht
  simp only [State.ticked, latchByte_congr hpins]
  rfl

/-! Runs of compare-match events (R104, R125) -/

/-- What compare-match events leave alone: the cells and records of the main context but for a hold, and its words. -/
structure State.TickFrame (s t : State) : Prop where
  cfg : t.cfg = s.cfg
  prev : t.prev = s.prev
  param : t.param = s.param
  dir : t.dir = s.dir
  refreshes : t.refreshes = s.refreshes
  mainPort : t.mainPort = s.mainPort
  idle : s.sync = .idle → t.sync = .idle ∧ t.mainResp = s.mainResp

theorem State.TickFrame.refl (s : State) : s.TickFrame s :=
  ⟨rfl, rfl, rfl, rfl, rfl, rfl, fun h => ⟨h, rfl⟩⟩

theorem State.TickFrame.trans {s t u : State} (h : s.TickFrame t) (k : t.TickFrame u) : s.TickFrame u where
  cfg := k.cfg.trans h.cfg
  prev := k.prev.trans h.prev
  param := k.param.trans h.param
  dir := k.dir.trans h.dir
  refreshes := k.refreshes.trans h.refreshes
  mainPort := k.mainPort.trans h.mainPort
  idle hs := ⟨(k.idle (h.idle hs).1).1, (k.idle (h.idle hs).1).2.trans (h.idle hs).2⟩

theorem State.tickFrame_ticked (s : State) (pins : Byte) (ts : List Turn) :
    s.TickFrame { s.ticked pins with turns := ts, ctx := .main } :=
  ⟨rfl, rfl, rfl, rfl, rfl, rfl, fun h => by rw [State.ticked_eq_of_idle h pins]; exact ⟨h, rfl⟩⟩

/-- A run of compare-match events from a legal in-range state: the counter has advanced by their number, the latch is
the last sample, and the main context's cells are as before (R104 (a), R125). -/
theorem run_compareMatches (pins : List Byte) {rest : List Turn} {s : State} (hl : s.cfg.Legal) (hr : s.CounterInRange)
    (hturns : s.turns = pins.map Turn.compareMatch ++ rest) :
    ∃ t : State, Host.Core.run Sys2Proof.core pins.length s = .next t ∧ t.turns = rest ∧
      t.millis.toNat = (s.millis.toNat + pins.length) % s.cfg.period ∧
      t.latch = ((pins.getLast?.map (latchByte s.cfg)).getD s.latch) ∧ s.TickFrame t := by
  induction pins generalizing s with
  | nil => exact ⟨s, rfl, hturns, (Nat.mod_eq_of_lt hr).symm, rfl, .refl s⟩
  | cons p pins ih =>
    have hmillis := State.ticked_millis_toNat hl hr p
    obtain ⟨t, hrun, hrest, hcount, hlatch, hframe⟩ :=
      ih (s := { s.ticked p with turns := pins.map Turn.compareMatch ++ rest, ctx := .main }) hl
        (State.ticked_counterInRange hl hr p) rfl
    refine ⟨t, (run_step (step_compareMatch hturns)).trans hrun, hrest, ?_, ?_, (s.tickFrame_ticked p _).trans hframe⟩
    · calc t.millis.toNat = ((s.millis.toNat + 1) % s.cfg.period + pins.length) % s.cfg.period := by
            rw [hcount, hmillis]; rfl
        _ = (s.millis.toNat + (p :: pins).length) % s.cfg.period := by
            rw [Nat.mod_add_mod, List.length_cons, Nat.add_assoc, Nat.add_comm 1]
    · rw [hlatch, List.getLast?_cons]
      cases pins.getLast? <;> rfl

/-- Settles O23: the run of the events. -/
theorem ticksAdvanceTheCounterModuloPeriod : Obligations.TicksAdvanceTheCounterModuloPeriod := by
  unfold Obligations.TicksAdvanceTheCounterModuloPeriod
  intro pins rest s hl hr hturns
  obtain ⟨t, hrun, hrest, hcount, hlatch, -⟩ := run_compareMatches pins hl hr hturns
  exact ⟨t, hrun, hrest, hcount, hlatch⟩

/-- Settles O24: up to PERIOD - n events the sum does not pass PERIOD. -/
theorem counterFirstReturnsToZero : Obligations.CounterFirstReturnsToZero := by
  unfold Obligations.CounterFirstReturnsToZero
  intro pins rest s hl hr hturns _ hle
  obtain ⟨t, hrun, -, hcount, -, -⟩ := run_compareMatches pins hl hr hturns
  refine ⟨t, hrun, hcount.trans ?_⟩
  split
  · next heq =>
    have hsum : s.millis.toNat + pins.length = s.cfg.period := by omega
    rw [hsum, Nat.mod_self]
  · exact Nat.mod_eq_of_lt (by omega)

/-! Words of the main context between the events -/

theorem run_one {s t : State} (h : step s = .next t) : Host.Core.run Sys2Proof.core 1 s = .next t :=
  run_step h

/-- NOW's step on the main port. -/
theorem step_now {s : State} {ts : List Turn} {ws : List CmdWord} (hmain : s.MainTurn ts) (hidle : s.sync = .idle)
    (hport : s.mainPort = 0x100000 :: ws) :
    step s = .next { s with
      turns := ts, mainPort := ws, ctx := .main, mainResp := s.mainResp ++ [.done16 s.millis] } := by
  rw [step_of_mainWord hmain hidle hport, performWord_ok (i := .now) (by decide), exec_now, State.respond_main rfl]

/-- Settles O26: a NOW, the run of the events, a NOW. -/
theorem twoNowsDifferByTheTicksBetween : Obligations.TwoNowsDifferByTheTicksBetween := by
  unfold Obligations.TwoNowsDifferByTheTicksBetween
  intro pins rest ws s hl hr hidle hturns hport
  have hfirst := step_now (.inl hturns) hidle hport
  obtain ⟨u, hrun, hrest, hcount, -, hframe⟩ := run_compareMatches pins (rest := .main :: rest)
    (s := { s with
      turns := pins.map Turn.compareMatch ++ .main :: rest, mainPort := 0x100000 :: ws, ctx := .main
      mainResp := s.mainResp ++ [.done16 s.millis] }) hl hr rfl
  obtain ⟨huidle, huresp⟩ := hframe.idle hidle
  have hsecond := step_now (.inl hrest) huidle hframe.mainPort
  have hmillis : u.millis = BitVec.ofNat 16 ((s.millis.toNat + pins.length) % s.cfg.period) := by
    rw [← hcount, BitVec.ofNat_toNat, BitVec.setWidth_eq]
  refine ⟨_, ((run_step hfirst).trans (run_add hrun)).trans (run_one hsecond), ?_, rfl, rfl⟩
  rw [huresp, hmillis, List.append_assoc]
  rfl

end Sys2Proof.Machine
end


section
/-! The family of spec/42_edge_decoder.md, continued: POLL's exact result in both variants, POLLs in a row, and POLLs
between compare-match events. -/

namespace Sys2Proof.Machine

/-! The digits (R140) -/

theorem asciiDigit_toNat {d : Nat} (hd : d ≤ 9) : (asciiDigit d).toNat = 0x30 + d := by
  rw [asciiDigit, BitVec.toNat_add, BitVec.toNat_ofNat, Nat.mod_eq_of_lt (a := d) (by omega)]
  exact Nat.mod_eq_of_lt (by simp; omega)

theorem encDigits_of_le {v : Byte} (hv : v.toNat ≤ 99) :
    encDigits v = some (asciiDigit (v.toNat / 10), asciiDigit (v.toNat % 10)) := if_pos hv

/-- Settles O42: quotient and remainder by ten are decimal digits. -/
theorem digitsSpellTheValue : Obligations.DigitsSpellTheValue := by
  unfold Obligations.DigitsSpellTheValue
  refine ⟨fun v hv => ⟨_, _, encDigits_of_le hv, ?_⟩, by decide⟩
  rw [asciiDigit_toNat (d := v.toNat / 10) (by omega), asciiDigit_toNat (d := v.toNat % 10) (by omega)]
  omega

theorem asciiDigit_eq {d : Nat} {x : Byte} (h : x.toNat = d) : asciiDigit d = 0x30 + x := by
  rw [asciiDigit, ← h, BitVec.ofNat_toNat, BitVec.setWidth_eq]

/-- The two ways of writing `enc` of a value agree. -/
theorem digitsOf_eq (v : Byte) : digitsOf v = .digits (asciiDigit (v.toNat / 10)) (asciiDigit (v.toNat % 10)) := by
  rw [asciiDigit_eq (d := v.toNat / 10) (x := v / 10) BitVec.toNat_udiv,
    asciiDigit_eq (d := v.toNat % 10) (x := v % 10) BitVec.toNat_umod]

/-! ActionA and ActionB on Param (R136, R137) -/

@[simp] theorem State.emitDigits_param (s : State) : s.emitDigits.param = s.param := by
  obtain ⟨_, _, _, h⟩ := s.emitDigits_frame; rw [h]

theorem State.actionA_param (s : State) :
    s.actionA.param = if s.param < s.cfg.paramMax then s.param + 1 else s.param := by
  rw [State.actionA_eq, State.emitDigits_param, State.setParam_param]

theorem State.actionB_param (s : State) : s.actionB.param = if 1 < s.param then s.param - 1 else s.param := by
  rw [State.actionB_eq, State.emitDigits_param, State.setParam_param]

@[simp] theorem State.actionA_cfg (s : State) : s.actionA.cfg = s.cfg := by
  obtain ⟨_, _, _, h⟩ := s.actionA_frame; rw [h]

@[simp] theorem State.actionA_refreshes_length (s : State) :
    s.actionA.refreshes.length = s.refreshes.length + 1 := by
  obtain ⟨_, _, _, h⟩ := s.actionA_frame; rw [h]; simp

@[simp] theorem State.actionB_refreshes_length (s : State) :
    s.actionB.refreshes.length = s.refreshes.length + 1 := by
  obtain ⟨_, _, _, h⟩ := s.actionB_frame; rw [h]; simp

/-- Param lies within R24's bounds. -/
def ParamBound (c : Config) (p : Byte) : Prop := 1 ≤ p.toNat ∧ p.toNat ≤ c.paramMax.toNat

theorem State.actionA_paramBound {s : State} (h : ParamBound s.cfg s.param) : ParamBound s.cfg s.actionA.param := by
  rw [State.actionA_param]
  split
  · next hlt =>
    have hstep : (s.param + 1).toNat = s.param.toNat + 1 :=
      BitVec.toNat_add_of_lt ((Nat.succ_le_of_lt hlt).trans_lt s.cfg.paramMax.isLt)
    exact ⟨by omega, by rw [hstep]; exact hlt⟩
  · exact h

theorem State.actionB_paramBound {s : State} (h : ParamBound s.cfg s.param) : ParamBound s.cfg s.actionB.param := by
  obtain ⟨h1, h2⟩ := h
  rw [State.actionB_param]
  split
  · next hlt =>
    have hgt : 1 < s.param.toNat := hlt
    have hstep : (s.param - 1).toNat = s.param.toNat - 1 := BitVec.toNat_sub_of_le (BitVec.le_of_lt hlt)
    exact ⟨by omega, by omega⟩
  · exact ⟨h1, h2⟩

theorem State.actionA_if_paramBound {s : State} (A : Prop) [Decidable A] (h : ParamBound s.cfg s.param) :
    ParamBound s.cfg (if A then s.actionA else s).param := by
  split
  · exact State.actionA_paramBound h
  · exact h

/-- The actions of one POLL keep Param within its bounds. -/
theorem State.edgeActions_paramBound {s : State} (hv : s.cfg.variant = .twoButton) (h : ParamBound s.cfg s.param)
    (curr prev : Byte) : ParamBound s.cfg (s.edgeActions curr prev).param := by
  have hA := State.actionA_if_paramBound (Rises curr prev s.cfg.bitA) h
  have hcfg : (if Rises curr prev s.cfg.bitA then s.actionA else s).cfg = s.cfg := by split <;> simp
  rw [State.edgeActions_twoButton hv]
  split
  · have hB := State.actionB_paramBound (s := if Rises curr prev s.cfg.bitA then s.actionA else s) (by rwa [hcfg])
    rwa [hcfg] at hB
  · exact hA

/-! POLL's result in TWO_BUTTON (R135 to R138, R141) -/

/-- Where `enc` is defined, setting Param and requesting a refresh emits the digits of the value set. -/
theorem State.setParam_emitDigits_of_le (s : State) {p : Byte} (hp : p.toNat ≤ 99) :
    (s.setParam p).emitDigits = { s with param := p, refreshes := s.refreshes ++ [digitsOf p] } := by
  rw [State.emitDigits_inDomain (s := s.setParam p) hp, digitsOf_eq]
  rfl

/-- The first test of POLL, with ActionA: Param moves up unless it is at its maximum. -/
theorem State.actionA_if {s : State} {A : Prop} [Decidable A] {p : Byte} (hb : ParamBound s.cfg s.param)
    (h99 : s.cfg.paramMax.toNat ≤ 99) (hp : p = if A ∧ s.param ≠ s.cfg.paramMax then s.param + 1 else s.param) :
    (if A then s.actionA else s) =
      { s with param := p, refreshes := s.refreshes ++ if A then [digitsOf p] else [] } := by
  by_cases hA : A
  · have hne : s.param < s.cfg.paramMax ↔ s.param ≠ s.cfg.paramMax :=
      ⟨BitVec.ne_of_lt, fun h => BitVec.lt_of_le_ne hb.2 h⟩
    have hparam : s.actionA.param = p := by simp only [State.actionA_param, hp, hA, true_and, hne]
    have hle : p.toNat ≤ 99 := hparam ▸ (State.actionA_paramBound hb).2.trans h99
    rw [if_pos hA, if_pos hA, ← State.setParam_emitDigits_of_le s hle, ← hparam, State.actionA_param]
    exact s.actionA_eq
  · simp [hA, hp]

/-- The second test of POLL, with ActionB: Param moves down unless it is 1. -/
theorem State.actionB_if {s : State} {B : Prop} [Decidable B] {p : Byte} (hb : ParamBound s.cfg s.param)
    (h99 : s.cfg.paramMax.toNat ≤ 99) (hp : p = if B ∧ s.param ≠ 1 then s.param - 1 else s.param) :
    (if B then s.actionB else s) =
      { s with param := p, refreshes := s.refreshes ++ if B then [digitsOf p] else [] } := by
  by_cases hB : B
  · have hne : 1 < s.param ↔ s.param ≠ 1 :=
      ⟨fun h => (BitVec.ne_of_lt h).symm, fun h => BitVec.lt_of_le_ne hb.1 h.symm⟩
    have hparam : s.actionB.param = p := by simp only [State.actionB_param, hp, hB, true_and, hne]
    have hle : p.toNat ≤ 99 := hparam ▸ (State.actionB_paramBound hb).2.trans h99
    rw [if_pos hB, if_pos hB, ← State.setParam_emitDigits_of_le s hle, ← hparam, State.actionB_param]
    exact s.actionB_eq
  · simp [hB, hp]

/-- Settles O31: the two tests in order, each on the state the one before left. -/
theorem pollTwoButtonResult : Obligations.PollTwoButtonResult := by
  unfold Obligations.PollTwoButtonResult
  intro s afterA afterB hc _ hv h1 hmax h99 hA hB
  have hboundA := State.actionA_if_paramBound (Rises s.latch s.prev s.cfg.bitA) ⟨h1, hmax⟩
  rw [State.actionA_if ⟨h1, hmax⟩ h99 hA] at hboundA
  rw [exec_poll_main hc, State.edgeActions_twoButton hv, State.actionA_if ⟨h1, hmax⟩ h99 hA,
    State.actionB_if hboundA h99 hB]

theorem State.actionA_param_at_max {s : State} (h : s.param = s.cfg.paramMax) : s.actionA.param = s.param := by
  rw [State.actionA_param, if_neg (h ▸ BitVec.lt_irrefl _)]

/-- Below the maximum ActionB undoes what ActionA did to Param. -/
theorem State.actionB_actionA_param_of_lt {s : State} (h1 : 1 ≤ s.param.toNat) (h : s.param < s.cfg.paramMax) :
    s.actionA.actionB.param = s.param := by
  have hA : s.actionA.param = s.param + 1 := by rw [State.actionA_param, if_pos h]
  have hstep : (s.param + 1).toNat = s.param.toNat + 1 :=
    BitVec.toNat_add_of_lt ((Nat.succ_le_of_lt h).trans_lt s.cfg.paramMax.isLt)
  have hone : 1 < s.param + 1 := by
    show 1 < (s.param + 1).toNat
    omega
  rw [State.actionB_param, hA, if_pos hone, BitVec.add_sub_cancel]

/-- Settles O35: both actions in order, A idle at the maximum and undone by B below it. -/
theorem bothButtonsAtAClamp : Obligations.BothButtonsAtAClamp := by
  unfold Obligations.BothButtonsAtAClamp
  intro s hc _ hv h1 hmax hA hB
  have hact : s.edgeActions s.latch s.prev = s.actionA.actionB := by
    rw [State.edgeActions_twoButton hv, if_pos hB, if_pos hA]
  refine ⟨_, exec_poll_main hc, ?_⟩
  rw [hact]
  refine ⟨fun heq hgt => ?_, fun hor => ?_, by simp⟩
  · show s.actionA.actionB.param.toNat = _
    have hone : 1 < s.param := hgt
    rw [State.actionB_param, State.actionA_param_at_max heq, if_pos hone]
    exact BitVec.toNat_sub_of_le (BitVec.le_of_lt hone)
  · show s.actionA.actionB.param = s.param
    by_cases heq : s.param = s.cfg.paramMax
    · have hone : ¬ 1 < s.param := by
        show ¬ 1 < s.param.toNat
        have := hor.resolve_left (not_not_intro heq)
        omega
      rw [State.actionB_param, State.actionA_param_at_max heq, if_neg hone]
    · exact State.actionB_actionA_param_of_lt h1 (BitVec.lt_of_le_ne hmax heq)

/-! POLL's result in SINGLE_SWITCH (R139, R142) -/

/-- Settles O32: the one test and its toggle, on one bit. -/
theorem pollSingleSwitchResult : Obligations.PollSingleSwitchResult := by
  unfold Obligations.PollSingleSwitchResult
  intro s hc _ hv
  have htoggle : ∀ d : BitVec 1, d ^^^ 1 = if d = 0 then 1 else 0 := by decide
  rw [exec_poll_main hc, State.edgeActions_singleSwitch hv]
  by_cases hS : Rises s.latch s.prev s.cfg.bitS
  · simp only [if_pos hS, State.actionS_eq, htoggle]
  · simp only [if_neg hS, List.append_nil]

end Sys2Proof.Machine
end


section
/-! The family of spec/42_edge_decoder.md over several steps: who writes Prev and emits, POLLs in a row,
and POLLs between compare-match events. -/

namespace Sys2Proof.Machine

/-! Who writes Prev and emits Refresh events (R134, R141) -/

/-- An operation that completes leaves Prev and the Refresh events alone unless it is a POLL, which leaves the latch in
Prev. -/
theorem exec_prev_refreshes_same_or_poll {i : Instr} {s t : State} (h : exec i s = .next t) :
    (t.prev = s.prev ∧ t.refreshes = s.refreshes) ∨ (i = .poll ∧ s.ctx = .main ∧ t.prev = s.latch) := by
  cases i with
  | now => left; rw [exec_now_next h]; simp
  | getEvent => left; rw [exec_getEvent_next h]; simp
  | setEvent imm8 => obtain ⟨-, rfl⟩ := exec_setEvent_next h; exact .inl ⟨rfl, rfl⟩
  | poll => obtain ⟨hc, p, d, r, f, -, rfl⟩ := exec_poll_next h; exact .inr ⟨rfl, hc, rfl⟩
  | syncDelay offset => obtain ⟨-, ⟨-, rfl⟩ | ⟨-, -, rfl⟩⟩ := exec_syncDelay_next h <;> exact .inl ⟨rfl, rfl⟩
  | write port mask value => obtain ⟨-, j, -, rfl⟩ := exec_write_next h; exact .inl ⟨rfl, rfl⟩
  | tick => obtain ⟨-, m, f, -, ⟨-, rfl⟩ | ⟨-, rfl⟩⟩ := exec_tick_next h <;> exact .inl ⟨rfl, rfl⟩

/-- A step that changes Prev or the Refresh events is a reset, or the main context's POLL. -/
theorem step_prev_refreshes_changes {s t : State} (h : step s = .next t)
    (hne : t.prev ≠ s.prev ∨ t.refreshes ≠ s.refreshes) :
    (∃ ts, s.turns = .reset :: ts) ∨
    (s.sync = .idle ∧ ∃ ts ws, s.MainTurn ts ∧ s.mainPort = 0x400000 :: ws ∧
      exec .poll { s with turns := ts, mainPort := ws, ctx := .main } = .next t) := by
  have hchanged : ¬ (t.prev = s.prev ∧ t.refreshes = s.refreshes) := by tauto
  rcases step_next h with ⟨ts, -, -, rfl⟩ | ⟨ts, w, ws, i, hmain, hidle, hport, hd, he⟩ |
    ⟨w, pins, ts, i, u, -, -, he, rfl⟩ | ⟨ts, hturns, -⟩
  · exact absurd ⟨rfl, rfl⟩ hchanged
  · rcases exec_prev_refreshes_same_or_poll he with hsame | ⟨rfl, -, -⟩
    · exact absurd hsame hchanged
    · rw [decode_ok_poll hd] at hport
      exact .inr ⟨hidle, ts, ws, hmain, hport, he⟩
  · rcases exec_prev_refreshes_same_or_poll he with hsame | ⟨-, hctx, -⟩
    · exact absurd hsame hchanged
    · cases hctx
  · exact .inl ⟨ts, hturns⟩

/-- Settles O37: of a step's operations only the main context's POLL writes Prev. -/
theorem prevIsWrittenByPollAndResetOnly : Obligations.PrevIsWrittenByPollAndResetOnly := by
  unfold Obligations.PrevIsWrittenByPollAndResetOnly
  refine ⟨fun s hc _ => ⟨_, exec_poll_main hc, rfl⟩, fun s t h hne => ?_⟩
  rcases step_prev_refreshes_changes h (.inl hne) with hreset | ⟨hidle, ts, ws, hmain, hport, he⟩
  · exact .inl hreset
  · rw [exec_poll_main rfl] at he
    cases he
    exact .inr ⟨hidle, ⟨ts, ws, hmain, hport⟩, rfl⟩

/-! POLLs in a row (R143) -/

/-- Where Prev already equals the latch, a POLL only signals `done`. -/
theorem exec_poll_settled {s : State} (hc : s.ctx = .main) (hsettled : s.prev = s.latch) :
    exec .poll s = .next { s with mainResp := s.mainResp ++ [.done] } := by
  rw [exec_poll_main hc, hsettled, State.edgeActions_same]

/-- Settles O38: the first POLL leaves Prev equal to the latch. -/
theorem secondPollFiresNothing : Obligations.SecondPollFiresNothing := by
  unfold Obligations.SecondPollFiresNothing
  intro s t h
  obtain ⟨hc, p, d, r, f, -, rfl⟩ := exec_poll_next h
  exact ⟨_, exec_poll_settled hc rfl, rfl⟩

/-- POLL's step on the main port: its actions, Prev and `done`, the word and the turn consumed. -/
theorem step_poll {s : State} {ts : List Turn} {ws : List CmdWord} (hmain : s.MainTurn ts) (hidle : s.sync = .idle)
    (hport : s.mainPort = 0x400000 :: ws) :
    step s = .next { State.edgeActions { s with turns := ts, mainPort := ws, ctx := .main } s.latch s.prev with
      prev := s.latch, mainResp := s.mainResp ++ [.done] } := by
  rw [step_of_mainWord hmain hidle hport, performWord_ok (i := .poll) (by decide)]
  exact exec_poll_main rfl

/-- POLL leaves the counter, the latch, Sync, the words and the turns as they were when it was taken. -/
structure State.PollFrame (s t : State) (ts : List Turn) (ws : List CmdWord) : Prop where
  cfg : t.cfg = s.cfg
  millis : t.millis = s.millis
  latch : t.latch = s.latch
  prev : t.prev = s.latch
  sync : t.sync = s.sync
  turns : t.turns = ts
  mainPort : t.mainPort = ws

theorem State.pollFrame_edgeActions (s : State) (ts : List Turn) (ws : List CmdWord) :
    s.PollFrame { State.edgeActions { s with turns := ts, mainPort := ws, ctx := .main } s.latch s.prev with
      prev := s.latch, mainResp := s.mainResp ++ [.done] } ts ws := by
  obtain ⟨p, d, r, f, he⟩ :=
    State.edgeActions_frame { s with turns := ts, mainPort := ws, ctx := .main } s.latch s.prev
  rw [he]
  exact ⟨rfl, rfl, rfl, rfl, rfl, rfl, rfl⟩

/-- Any number of POLLs where Prev already equals the latch fire nothing. -/
theorem run_settled_polls (n : Nat) {rest : List Turn} {ws : List CmdWord} {s : State} (hidle : s.sync = .idle)
    (hsettled : s.prev = s.latch) (hturns : s.turns = List.replicate n .main ++ rest)
    (hport : s.mainPort = List.replicate n (0x400000 : CmdWord) ++ ws) :
    ∃ t : State, Host.Core.run Sys2Proof.core n s = .next t ∧
      t.param = s.param ∧ t.dir = s.dir ∧ t.refreshes = s.refreshes ∧ t.prev = s.latch ∧
      t.mainPort = ws ∧ t.turns = rest := by
  induction n generalizing s with
  | zero => exact ⟨s, rfl, rfl, rfl, rfl, hsettled, hport, hturns⟩
  | succ n ih =>
    have hstep := step_poll (.inl hturns) hidle hport
    rw [hsettled, State.edgeActions_same] at hstep
    obtain ⟨t, hrun, ht⟩ := ih (s := { s with
      turns := List.replicate n .main ++ rest, mainPort := List.replicate n (0x400000 : CmdWord) ++ ws, ctx := .main
      prev := s.latch, mainResp := s.mainResp ++ [.done] }) hidle rfl rfl rfl
    exact ⟨t, (run_step hstep).trans hrun, ht⟩

/-- Settles O39: after the first POLL, Prev equals the latch and stays so. -/
theorem holdingFiresOnce : Obligations.HoldingFiresOnce := by
  unfold Obligations.HoldingFiresOnce
  intro n rest ws s hidle hturns hport
  have hstep := step_poll (ts := List.replicate n .main ++ rest)
    (ws := List.replicate n (0x400000 : CmdWord) ++ ws) (.inl hturns) hidle hport
  have hframe := s.pollFrame_edgeActions (List.replicate n .main ++ rest) (List.replicate n (0x400000 : CmdWord) ++ ws)
  obtain ⟨t, hrun, hparam, hdir, hrefreshes, hprev, hport', hturns'⟩ :=
    run_settled_polls n (hframe.sync.trans hidle) (hframe.prev.trans hframe.latch.symm) hframe.turns hframe.mainPort
  exact ⟨_, t, hstep, (run_step hstep).trans hrun, hparam, hdir, hrefreshes, hprev.trans hframe.latch, hport', hturns'⟩

/-! POLLs between compare-match events (R246) -/

/-- One Refresh for each of the two bits that rises (D10). -/
theorem State.edgeActions_refreshes_length {s : State} (hv : s.cfg.variant = .twoButton) (curr prev : Byte) :
    (s.edgeActions curr prev).refreshes.length = s.refreshes.length +
      (if Rises curr prev s.cfg.bitA then 1 else 0) + (if Rises curr prev s.cfg.bitB then 1 else 0) := by
  rw [State.edgeActions_twoButton hv]
  have hA : (if Rises curr prev s.cfg.bitA then s.actionA else s).refreshes.length =
      s.refreshes.length + if Rises curr prev s.cfg.bitA then 1 else 0 := by
    split <;> simp
  by_cases hB : Rises curr prev s.cfg.bitB
  · rw [if_pos hB, if_pos hB, State.actionB_refreshes_length, hA]
  · rw [if_neg hB, if_neg hB, hA, Nat.add_zero]

/-- Dir is toggled when the switch bit rises (D12). -/
theorem State.edgeActions_dir_toNat {s : State} (hv : s.cfg.variant = .singleSwitch) (curr prev : Byte) :
    (s.edgeActions curr prev).dir.toNat =
      (s.dir.toNat + if Rises curr prev s.cfg.bitS then 1 else 0) % 2 := by
  have htoggle : ∀ d : BitVec 1, (d ^^^ 1).toNat = (d.toNat + 1) % 2 := by decide
  rw [State.edgeActions_singleSwitch hv]
  split
  · exact htoggle s.dir
  · exact (Nat.mod_eq_of_lt s.dir.isLt).symm

/-- What has been fired from `s` to `t` when `nA`, `nB` and `nS` edges of the three watched bits were read. -/
def State.Fired (s t : State) (nA nB nS : Nat) : Prop :=
  (s.cfg.variant = .twoButton → t.refreshes.length = s.refreshes.length + nA + nB) ∧
  (s.cfg.variant = .singleSwitch → t.dir.toNat = (s.dir.toNat + nS) % 2)

theorem State.fired_zero (s : State) : s.Fired s 0 0 0 :=
  ⟨fun _ => rfl, fun _ => (Nat.mod_eq_of_lt s.dir.isLt).symm⟩

theorem State.Fired.trans {s t u : State} {nA nB nS kA kB kS : Nat} (h : s.Fired t nA nB nS)
    (k : t.Fired u kA kB kS) (hcfg : t.cfg = s.cfg) : s.Fired u (nA + kA) (nB + kB) (nS + kS) := by
  constructor
  · intro hv
    rw [k.1 (hcfg ▸ hv), h.1 hv]
    omega
  · intro hv
    rw [k.2 (hcfg ▸ hv), h.2 hv, Nat.mod_add_mod, Nat.add_assoc]

/-- One group of the schedule: the POLL reads the last sample of its events against Prev. -/
theorem run_group (group : List Byte) {ts : List Turn} {ws : List CmdWord} {s : State} (hl : s.cfg.Legal)
    (hr : s.CounterInRange) (hidle : s.sync = .idle) (hturns : s.turns = group.map Turn.compareMatch ++ .main :: ts)
    (hport : s.mainPort = 0x400000 :: ws) {sample : Byte}
    (hsample : sample = (group.getLast?.map (latchByte s.cfg)).getD s.latch) :
    ∃ t : State, Host.Core.run Sys2Proof.core (group.length + 1) s = .next t ∧
      t.cfg = s.cfg ∧ t.CounterInRange ∧ t.sync = .idle ∧ t.turns = ts ∧ t.mainPort = ws ∧
      t.latch = sample ∧ t.prev = sample ∧
      s.Fired t (if Rises sample s.prev s.cfg.bitA then 1 else 0) (if Rises sample s.prev s.cfg.bitB then 1 else 0)
        (if Rises sample s.prev s.cfg.bitS then 1 else 0) := by
  obtain ⟨u, hrun, huturns, humillis, hulatch, hframe⟩ := run_compareMatches group hl hr hturns
  rw [← hsample] at hulatch
  have huidle := (hframe.idle hidle).1
  have hpoll := step_poll (.inl huturns) huidle (hframe.mainPort.trans hport)
  have hpframe := u.pollFrame_edgeActions ts ws
  refine ⟨_, (run_add hrun).trans (run_one hpoll), hpframe.cfg.trans hframe.cfg, ?_, hpframe.sync.trans huidle,
    hpframe.turns, hpframe.mainPort, hpframe.latch.trans hulatch, hpframe.prev.trans hulatch,
    fun hv => ?_, fun hv => ?_⟩
  · unfold State.CounterInRange
    rw [hpframe.cfg, hpframe.millis, hframe.cfg, humillis]
    exact Nat.mod_lt _ (by have := hl.1; omega)
  · have hlen := State.edgeActions_refreshes_length (s := { u with turns := ts, mainPort := ws, ctx := .main })
      (by rw [← hv]; exact congrArg Config.variant hframe.cfg) u.latch u.prev
    simpa only [hulatch, hframe.prev, hframe.cfg, hframe.refreshes] using hlen
  · have hdir := State.edgeActions_dir_toNat (s := { u with turns := ts, mainPort := ws, ctx := .main })
      (by rw [← hv]; exact congrArg Config.variant hframe.cfg) u.latch u.prev
    simpa only [hulatch, hframe.prev, hframe.cfg, hframe.dir] using hdir

theorem lastSample_cons (prev sample : Byte) (samples : List Byte) :
    lastSample prev (sample :: samples) = lastSample sample samples := by
  simp [lastSample, List.getLast?_cons]

theorem pollTurns_cons_length (group : List Byte) (groups : List (List Byte)) :
    (pollTurns (group :: groups)).length = group.length + 1 + (pollTurns groups).length := by
  rw [pollTurns, List.length_append, List.length_map, List.length_cons]
  omega

/-- A whole schedule: what has fired is what rises along the samples read. -/
theorem run_pollTurns (groups : List (List Byte)) {rest : List Turn} {ws : List CmdWord} {s : State} (hl : s.cfg.Legal)
    (hr : s.CounterInRange) (hidle : s.sync = .idle) (hturns : s.turns = pollTurns groups ++ rest)
    (hport : s.mainPort = List.replicate groups.length (0x400000 : CmdWord) ++ ws) :
    ∃ t : State, Host.Core.run Sys2Proof.core (pollTurns groups).length s = .next t ∧
      s.Fired t (risingEdges s.cfg.bitA s.prev (pollSamples s.cfg s.latch groups))
        (risingEdges s.cfg.bitB s.prev (pollSamples s.cfg s.latch groups))
        (risingEdges s.cfg.bitS s.prev (pollSamples s.cfg s.latch groups)) ∧
      t.prev = lastSample s.prev (pollSamples s.cfg s.latch groups) ∧ t.turns = rest ∧ t.mainPort = ws := by
  induction groups generalizing s with
  | nil => exact ⟨s, rfl, s.fired_zero, rfl, hturns, hport⟩
  | cons group groups ih =>
    obtain ⟨u, hrun, hcfg, hur, huidle, huturns, huport, hulatch, huprev, hfired⟩ :=
      run_group group (ts := pollTurns groups ++ rest) (ws := List.replicate groups.length 0x400000 ++ ws) hl hr hidle
        (by rw [hturns, pollTurns, List.append_assoc]; rfl)
        (by simpa only [List.length_cons, List.replicate_succ, List.cons_append] using hport) rfl
    obtain ⟨t, hrun', hfired', hprev, hrest, hport'⟩ := ih (hcfg ▸ hl) hur huidle huturns huport
    rw [hcfg, hulatch, huprev] at hfired' hprev
    refine ⟨t, ?_, hfired.trans hfired' hcfg, ?_, hrest, hport'⟩
    · rw [pollTurns_cons_length]
      exact (run_add hrun).trans hrun'
    · exact hprev.trans (lastSample_cons _ _ _).symm

/-- Settles O40: the schedule's count of refreshes. -/
theorem twoButtonFiresOncePerSampledEdge : Obligations.TwoButtonFiresOncePerSampledEdge := by
  unfold Obligations.TwoButtonFiresOncePerSampledEdge
  intro groups rest ws s hl hr hidle hv hturns hport
  obtain ⟨t, hrun, hfired, hrest⟩ := run_pollTurns groups hl hr hidle hturns hport
  exact ⟨t, hrun, hfired.1 hv, hrest⟩

/-- Settles O41: the schedule's count of toggles. -/
theorem switchTogglesOncePerSampledEdge : Obligations.SwitchTogglesOncePerSampledEdge := by
  unfold Obligations.SwitchTogglesOncePerSampledEdge
  intro groups rest ws s hl hr hidle hv hturns hport
  obtain ⟨t, hrun, hfired, hrest⟩ := run_pollTurns groups hl hr hidle hturns hport
  exact ⟨t, hrun, hfired.2 hv, hrest⟩

/-! The last Refresh (R141, R250) -/

/-- The last Refresh of a state carries `enc` of its Param. -/
def State.LastRefreshCurrent (t : State) : Prop :=
  ∃ d, encDigits t.param = some d ∧ t.refreshes.getLast? = some (.digits d.1 d.2)

theorem State.emitDigits_lastRefreshCurrent {s : State} (h : s.param.toNat ≤ 99) :
    s.emitDigits.LastRefreshCurrent := by
  refine ⟨_, by rw [State.emitDigits_param]; exact encDigits_of_le h, ?_⟩
  rw [State.emitDigits_enc s (encDigits_of_le h)]
  exact List.getLast?_concat

/-- POLL's actions in TWO_BUTTON leave the state as it is, or with a last Refresh of the Param they leave. -/
theorem State.edgeActions_lastRefreshCurrent {s : State} (hv : s.cfg.variant = .twoButton)
    (hb : ParamBound s.cfg s.param) (h99 : s.cfg.paramMax.toNat ≤ 99) (curr prev : Byte) :
    s.edgeActions curr prev = s ∨ (s.edgeActions curr prev).LastRefreshCurrent := by
  have hle := (State.edgeActions_paramBound hv hb curr prev).2.trans h99
  rw [State.edgeActions_twoButton hv] at hle ⊢
  by_cases hB : Rises curr prev s.cfg.bitB
  · rw [if_pos hB, State.actionB_eq] at hle ⊢
    exact .inr (State.emitDigits_lastRefreshCurrent (by rwa [State.emitDigits_param] at hle))
  · rw [if_neg hB] at hle ⊢
    by_cases hA : Rises curr prev s.cfg.bitA
    · rw [if_pos hA, State.actionA_eq] at hle ⊢
      exact .inr (State.emitDigits_lastRefreshCurrent (by rwa [State.emitDigits_param] at hle))
    · exact .inl (if_neg hA)

/-- Settles O43: only POLL emits, and its last action requests the refresh after Param has its value. -/
theorem refreshCarriesTheCurrentParameter : Obligations.RefreshCarriesTheCurrentParameter := by
  unfold Obligations.RefreshCarriesTheCurrentParameter
  intro s t hinv hv h hreset hne
  obtain ⟨⟨-, -, htwo, -⟩, -, -, hparam, -⟩ := hinv
  obtain ⟨h1, hmax, -⟩ := hparam.1 hv
  obtain ⟨-, -, -, -, h99, -⟩ := htwo hv
  rcases step_prev_refreshes_changes h (.inr hne) with ⟨ts, hturns⟩ | ⟨-, ts, ws, -, -, he⟩
  · exact absurd hturns (hreset ts)
  · rw [exec_poll_main rfl] at he
    cases he
    rcases State.edgeActions_lastRefreshCurrent (s := { s with turns := ts, mainPort := ws, ctx := .main })
      hv ⟨h1, hmax⟩ h99 s.latch s.prev with hsame | hcurrent
    · exact absurd (congrArg State.refreshes hsame) hne
    · exact hcurrent

/-! A press at power-on (R40) -/

/-- ActionA moves Param up by one, clamped at its maximum. -/
theorem State.actionA_param_toNat {s : State} (h : s.param.toNat ≤ s.cfg.paramMax.toNat) :
    s.actionA.param.toNat = min (s.param.toNat + 1) s.cfg.paramMax.toNat := by
  by_cases heq : s.param = s.cfg.paramMax
  · rw [State.actionA_param_at_max heq, heq]
    omega
  · have hlt : s.param < s.cfg.paramMax := BitVec.lt_of_le_ne h heq
    have hlt' : s.param.toNat < s.cfg.paramMax.toNat := hlt
    rw [State.actionA_param, if_pos hlt]
    exact (BitVec.toNat_add_of_lt ((Nat.succ_le_of_lt hlt').trans_lt s.cfg.paramMax.isLt)).trans (by simp; omega)

/-- Where `enc` is defined, ActionA's Refresh carries the digits of the Param it leaves. -/
theorem State.actionA_refreshes_of_le {s : State} (h : s.actionA.param.toNat ≤ 99) :
    s.actionA.refreshes = s.refreshes ++ [digitsOf s.actionA.param] := by
  rw [State.actionA_param] at h ⊢
  rw [State.actionA_eq, State.setParam_emitDigits_of_le s h]

/-- A one-hot mask is a single bit (R9). -/
theorem OneHot.eq_twoPow {b : Byte} (h : OneHot b) : ∃ k, b = BitVec.twoPow 8 k := by
  have hall : ∀ b : Byte, OneHot b → ∃ k : Fin 8, b = BitVec.twoPow 8 k := by decide
  obtain ⟨k, hk⟩ := hall b h
  exact ⟨k, hk⟩

/-- A byte has a one-hot mask's bit, or not. -/
theorem OneHot.and_eq_self_or_zero {b : Byte} (h : OneHot b) (p : Byte) : p &&& b = b ∨ p &&& b = 0 := by
  obtain ⟨k, rfl⟩ := OneHot.eq_twoPow h
  rw [BitVec.and_twoPow]
  split
  · exact .inl rfl
  · exact .inr rfl

/-- What the latch shows of a watched bit is the inverted pin (R102). -/
theorem latchByte_and_watched {c : Config} {bit : Byte} (hw : watchMask c &&& bit = bit) (pins : Byte) :
    latchByte c pins &&& bit = ~~~pins &&& bit := by
  rw [latchByte, BitVec.and_assoc, hw]

theorem not_and_eq_self {p b : Byte} (h : p &&& b = 0) : ~~~p &&& b = b := by
  calc ~~~p &&& b = p &&& b ||| ~~~p &&& b := by rw [h]; exact BitVec.zero_or.symm
    _ = (p ||| ~~~p) &&& b := BitVec.and_or_distrib_right.symm
    _ = b := by rw [BitVec.or_not_self, BitVec.allOnes_and]

/-- At the first POLL after reset an input whose pin was low at the tick has risen. -/
theorem rises_at_first_poll {c : Config} {bit pins : Byte} (hw : watchMask c &&& bit = bit) (hone : OneHot bit)
    (hpin : pins &&& bit = 0) : Rises (latchByte c pins) 0 bit :=
  ⟨by rw [latchByte_and_watched hw, not_and_eq_self hpin]; exact hone.1, BitVec.zero_and⟩

/-- At the first POLL after reset an input whose pin was high at the tick has not risen. -/
theorem not_rises_at_first_poll {c : Config} {bit pins : Byte} (hw : watchMask c &&& bit = bit) (hone : OneHot bit)
    (hpin : pins &&& bit ≠ 0) : ¬ Rises (latchByte c pins) 0 bit := by
  have hbit := (OneHot.and_eq_self_or_zero hone pins).resolve_right hpin
  rintro ⟨hcurr, -⟩
  rw [latchByte_and_watched hw, ← hbit, ← BitVec.and_assoc] at hcurr
  simp at hcurr

/-- The machine after reset and its first compare-match event, nothing presented. -/
def State.firstTicked (c : Config) (pins : Byte) : State := { (State.resetOf c).ticked pins with ctx := .main }

/-- The first tick and the first POLL after reset: POLL's actions on the first sample against Prev = 0. -/
theorem run_firstTick_poll (c : Config) (pins : Byte) : ∃ t : State,
    Host.Core.run Sys2Proof.core 2
      { State.resetOf c with turns := [Turn.compareMatch pins, .main], mainPort := [0x400000] } = .next t ∧
    t.param = ((State.firstTicked c pins).edgeActions (latchByte c pins) 0).param ∧
    t.dir = ((State.firstTicked c pins).edgeActions (latchByte c pins) 0).dir ∧
    t.refreshes = ((State.firstTicked c pins).edgeActions (latchByte c pins) 0).refreshes :=
  ⟨_, (run_step (step_compareMatch rfl)).trans (run_one (step_poll (.inl rfl) rfl rfl)), rfl, rfl, rfl⟩

/-- Settles O44: Prev is 0 after reset, so a pin low at the first tick is a rising bit. -/
theorem pressAtPowerOnIsAnEdge : Obligations.PressAtPowerOnIsAnEdge := by
  unfold Obligations.PressAtPowerOnIsAnEdge
  intro c pins hl
  obtain ⟨-, -, htwo, hswitch⟩ := hl
  obtain ⟨t, hrun, hparam, hdir, hrefreshes⟩ := run_firstTick_poll c pins
  refine ⟨fun hv hA hB => ⟨t, hrun, ?_⟩, fun hv hS => ⟨t, hrun, ?_⟩⟩
  · obtain ⟨honeA, honeB, -, -, h99, -, h1, hmax⟩ := htwo hv
    have hriseA := rises_at_first_poll (watchMask_and_bitA hv) honeA hA
    have hriseB := not_rises_at_first_poll (watchMask_and_bitB hv) honeB hB
    have hact : (State.firstTicked c pins).edgeActions (latchByte c pins) 0 = (State.firstTicked c pins).actionA := by
      rw [State.edgeActions_twoButton (s := State.firstTicked c pins) hv]
      exact (if_neg hriseB).trans (if_pos hriseA)
    have hmin := State.actionA_param_toNat (s := State.firstTicked c pins) hmax
    have hdigits := State.actionA_refreshes_of_le (s := State.firstTicked c pins)
      (by rw [hmin]; exact (Nat.min_le_right _ _).trans h99)
    rw [hact] at hparam hrefreshes
    exact ⟨hparam ▸ hmin, by rw [hrefreshes, hdigits, hparam]; rfl⟩
  · have hrise := rises_at_first_poll (watchMask_and_bitS hv) (hswitch hv) hS
    have hact : (State.firstTicked c pins).edgeActions (latchByte c pins) 0 = (State.firstTicked c pins).actionS := by
      rw [State.edgeActions_singleSwitch (s := State.firstTicked c pins) hv]
      exact if_pos hrise
    rw [hact] at hdir hrefreshes
    exact ⟨hdir.trans (show (0 : BitVec 1) ^^^ 1 = 1 by decide), hrefreshes⟩

end Sys2Proof.Machine
end


section
/-! The family of spec/43_sync_delay.md, continued: the target of a hold and its exact length. -/

namespace Sys2Proof.Machine

/-! The target (R162) -/

/-- With an offset in contract SYNC_DELAY begins a hold. -/
theorem exec_syncDelay_waits {s : State} {offset : Half} (hc : s.ctx = .main) (h0 : 0 < offset.toNat)
    (hp : offset.toNat < s.cfg.period) :
    exec (.syncDelay offset) s = .next { s with sync := .waiting (waitTarget s.cfg offset s.millis) } := by
  have hne : offset ≠ 0 := by rintro rfl; exact absurd h0 (by decide)
  have hwaits : exec (.syncDelay offset) s = .next (s.setSync (.waiting (waitTarget s.cfg offset s.millis))) := by
    simp only [exec, execSyncDelay, hc, if_neg hne, if_neg (not_le.mpr hp)]
  exact hwaits

/-- Two distances below PERIOD lead from a counter value to the same one only if they are equal. -/
theorem add_mod_injective {a j k p : Nat} (hj : j < p) (hk : k < p) (h : (a + j) % p = (a + k) % p) : j = k :=
  Nat.ModEq.eq_of_lt_of_lt (Nat.ModEq.add_left_cancel' a h) hj hk

/-- The target of a hold that begins is not the counter's value now. -/
theorem waitTarget_ne {c : Config} (hl : c.Legal) {offset millis : Half} (h0 : 0 < offset.toNat)
    (hp : offset.toNat < c.period) (hr : millis.toNat < c.period) : waitTarget c offset millis ≠ millis := by
  intro heq
  have htarget : (millis.toNat + offset.toNat) % c.period = (millis.toNat + 0) % c.period := by
    rw [Nat.add_comm, ← waitTarget_toNat hl, heq, Nat.add_zero, Nat.mod_eq_of_lt hr]
  have := add_mod_injective hp (h0.trans hp) htarget
  omega

theorem add_mod_eq_ite {a b p : Nat} (ha : a < p) (hb : b < p) :
    (a + b) % p = if a + b < p then a + b else a + b - p := by
  split
  · next h => exact Nat.mod_eq_of_lt h
  · rw [Nat.mod_eq_sub_mod (by omega), Nat.mod_eq_of_lt (by omega)]

/-- Settles O46: the 16-bit target is the sum modulo PERIOD, and the offset is no multiple of PERIOD. -/
theorem syncDelayComputesItsTargetOnce : Obligations.SyncDelayComputesItsTargetOnce := by
  unfold Obligations.SyncDelayComputesItsTargetOnce
  intro s offset hc _ hl hr h0 hp
  have htarget := waitTarget_toNat hl offset s.millis
  exact ⟨_, exec_syncDelay_waits hc h0 hp, htarget, htarget.trans (add_mod_eq_ite hp hr), waitTarget_ne hl h0 hp hr⟩

/-! The length of the hold (R164, R167) -/

/-- A compare-match event that does not bring the counter to the target leaves the hold. -/
theorem State.ticked_held {s : State} {x : Half} (hx : s.sync = .waiting x) (pins : Byte)
    (hne : (s.ticked pins).millis ≠ x) :
    (s.ticked pins).sync = .waiting x ∧ (s.ticked pins).mainResp = s.mainResp := by
  have hcond : ¬ s.sync = .waiting s.nextMillis := by
    rw [hx]
    exact fun h => hne (Sync.waiting.inj h).symm
  exact ⟨(if_neg hcond).trans hx, if_neg hcond⟩

/-- The compare-match event that brings the counter to the target ends the hold with `done`. -/
theorem State.ticked_released {s : State} {x : Half} (hx : s.sync = .waiting x) (pins : Byte)
    (heq : (s.ticked pins).millis = x) :
    (s.ticked pins).sync = .idle ∧ (s.ticked pins).mainResp = s.mainResp ++ [.done] := by
  have hcond : s.sync = .waiting s.nextMillis := by
    rw [hx, ← heq]
    rfl
  exact ⟨if_pos hcond, if_pos hcond⟩

theorem Turn.eq_compareMatch_of_legal {w : CmdWord} {pins : Byte} (h : (Turn.irq w pins).legal = true) :
    Turn.irq w pins = Turn.compareMatch pins := by
  rw [eq_of_beq (a := w) (b := tickWord) h]
  rfl

theorem tickCount_compareMatch_cons (pins : Byte) (ts : List Turn) :
    tickCount (Turn.compareMatch pins :: ts) = tickCount ts + 1 :=
  List.countP_cons_of_pos rfl

theorem tickCount_main_cons (ts : List Turn) : tickCount (.main :: ts) = tickCount ts :=
  List.countP_cons_of_neg (by decide)

/-- The main context of `s` is held for `left` more compare-match events, in a legal build. -/
structure State.HeldFor (s : State) (x : Half) (left : Nat) : Prop where
  legal : s.cfg.Legal
  inRange : s.CounterInRange
  sync : s.sync = .waiting x
  target : (s.millis.toNat + left) % s.cfg.period = x.toNat
  lt_period : left < s.cfg.period

/-- Before the last event of a hold, an event takes one off its length. -/
theorem State.HeldFor.ticked {s : State} {x : Half} {left : Nat} (h : s.HeldFor x (left + 1)) (hpos : 0 < left)
    (pins : Byte) (ts : List Turn) :
    State.HeldFor { s.ticked pins with turns := ts, ctx := .main } x left ∧ (s.ticked pins).mainResp = s.mainResp := by
  have hmillis := State.ticked_millis_toNat h.legal h.inRange pins
  have hne : (s.ticked pins).millis ≠ x := by
    rintro rfl
    have htarget := h.target.trans hmillis
    have hdistance := add_mod_injective h.lt_period (by have := h.lt_period; omega) htarget
    omega
  obtain ⟨hsync, hresp⟩ := State.ticked_held h.sync pins hne
  refine ⟨⟨h.legal, State.ticked_counterInRange h.legal h.inRange pins, hsync, ?_, Nat.lt_of_succ_lt h.lt_period⟩,
    hresp⟩
  show ((s.ticked pins).millis.toNat + left) % s.cfg.period = x.toNat
  rw [hmillis, Nat.mod_add_mod, Nat.add_assoc, Nat.add_comm 1, h.target]

/-- Turns that hold fewer events than the hold lasts: it goes on, no word is taken and nothing is signalled. -/
theorem run_held (ts : List Turn) {rest : List Turn} {s : State} {x : Half} {left : Nat}
    (h : s.HeldFor x (left + tickCount ts)) (hpos : 0 < left) (hlegal : ∀ y ∈ ts, y ≠ .reset ∧ y.legal = true)
    (hturns : s.turns = ts ++ rest) :
    ∃ t : State, Host.Core.run Sys2Proof.core ts.length s = .next t ∧ t.HeldFor x left ∧
      t.mainPort = s.mainPort ∧ t.mainResp = s.mainResp ∧ t.turns = rest := by
  induction ts generalizing s with
  | nil => exact ⟨s, rfl, h, rfl, rfl, hturns⟩
  | cons y ts ih =>
    obtain ⟨⟨hreset, hy⟩, hts⟩ := List.forall_mem_cons.mp hlegal
    cases y with
    | main =>
      have hstep := (step_of_mainTurn (.inl hturns)).trans (mainTurn_of_waiting h.sync)
      rw [tickCount_main_cons] at h
      obtain ⟨t, hrun, ht⟩ := ih (s := { s with turns := ts ++ rest })
        ⟨h.legal, h.inRange, h.sync, h.target, h.lt_period⟩ hts rfl
      exact ⟨t, (run_step hstep).trans hrun, ht⟩
    | irq w pins =>
      rw [Turn.eq_compareMatch_of_legal hy] at h hturns
      rw [tickCount_compareMatch_cons] at h
      obtain ⟨hheld, hresp⟩ := State.HeldFor.ticked (left := left + tickCount ts) h (by omega) pins (ts ++ rest)
      obtain ⟨t, hrun, ht, hport, hresp', hrest⟩ := ih hheld hts rfl
      exact ⟨t, (run_step (step_compareMatch hturns)).trans hrun, ht, hport, hresp'.trans hresp, hrest⟩
    | reset => exact absurd rfl hreset

/-- A SYNC_DELAY on the main port, its offset in contract: the step that begins the hold. -/
theorem step_syncDelay {s : State} {ts : List Turn} {ws : List CmdWord} {offset : Half} (hmain : s.MainTurn ts)
    (hidle : s.sync = .idle) (hport : s.mainPort = encode (.syncDelay offset) :: ws) (h0 : 0 < offset.toNat)
    (hp : offset.toNat < s.cfg.period) :
    step s = .next { s with
      turns := ts, mainPort := ws, ctx := .main, sync := .waiting (waitTarget s.cfg offset s.millis) } := by
  rw [step_of_mainWord hmain hidle hport, performWord_ok (decodeOfEncodeIsTheOperation (.syncDelay offset) rfl)]
  exact exec_syncDelay_waits rfl h0 hp

/-- A SYNC_DELAY followed by turns that hold fewer events than its offset: the hold then still lasts the rest. -/
theorem run_syncDelay_held {s : State} {offset : Half} {ws : List CmdWord} {ts rest : List Turn} {left : Nat}
    (hl : s.cfg.Legal) (hr : s.CounterInRange) (hidle : s.sync = .idle) (hp : offset.toNat < s.cfg.period)
    (hport : s.mainPort = encode (.syncDelay offset) :: ws) (hlegal : ∀ y ∈ ts, y ≠ .reset ∧ y.legal = true)
    (hpos : 0 < left) (hleft : left + tickCount ts = offset.toNat) (hturns : s.turns = .main :: (ts ++ rest)) :
    ∃ t : State, Host.Core.run Sys2Proof.core (ts.length + 1) s = .next t ∧
      t.HeldFor (waitTarget s.cfg offset s.millis) left ∧
      t.mainPort = ws ∧ t.mainResp = s.mainResp ∧ t.turns = rest := by
  have hstep := step_syncDelay (.inl hturns) hidle hport (by omega) hp
  obtain ⟨t, hrun, ht⟩ := run_held ts (left := left)
    (s := { s with
      turns := ts ++ rest, mainPort := ws, ctx := .main, sync := .waiting (waitTarget s.cfg offset s.millis) })
    ⟨hl, hr, rfl, by rw [hleft, Nat.add_comm, waitTarget_toNat hl], by rw [hleft]; exact hp⟩ hpos hlegal rfl
  exact ⟨t, (run_step hstep).trans hrun, ht⟩

/-- Settles O48: before the offset-th event some of the hold is left; at it the counter is at the target. -/
theorem syncDelayWaitsExactlyOffsetTicks : Obligations.SyncDelayWaitsExactlyOffsetTicks := by
  unfold Obligations.SyncDelayWaitsExactlyOffsetTicks
  intro s offset ws ts rest hl hr hidle h0 hp hport hlegal
  refine ⟨fun hlt => ?_, fun pins hlast => ?_⟩
  · obtain ⟨t, hrun, hheld, hport', hresp, hrest⟩ := run_syncDelay_held (left := offset.toNat - tickCount ts)
      (s := { s with turns := .main :: (ts ++ rest) }) hl hr hidle hp hport hlegal (by omega) (by omega) rfl
    exact ⟨t, hrun, hheld.sync, hport', hresp, hrest⟩
  · obtain ⟨t, hrun, hheld, hport', hresp, hrest⟩ := run_syncDelay_held (left := 1)
      (s := { s with turns := .main :: (ts ++ Turn.compareMatch pins :: rest) }) hl hr hidle hp hport hlegal
      Nat.one_pos (by omega) rfl
    have hmillis := (State.ticked_millis_toNat hheld.legal hheld.inRange pins).trans hheld.target
    obtain ⟨hidle', hdone⟩ := State.ticked_released hheld.sync pins (BitVec.eq_of_toNat_eq hmillis)
    refine ⟨_, (run_add hrun).trans (run_one (step_compareMatch hrest)), hidle', ?_, hport', ?_, rfl⟩
    · exact hmillis.trans (waitTarget_toNat hl offset s.millis)
    · rw [← hresp]
      exact hdone

end Sys2Proof.Machine
end


section
/-! The family of spec/44_output_latch.md, continued: WRITEs one after another, and a WRITE beside a tick. -/

namespace Sys2Proof.Machine

/-- A masked write done twice is done once (R182). -/
theorem maskedWrite_maskedWrite_same (old mask value : Byte) :
    maskedWrite (maskedWrite old mask value) mask value = maskedWrite old mask value := by
  apply BitVec.eq_of_getLsbD_eq
  intro b _
  simp only [maskedWrite_getLsbD]
  split <;> rfl

/-- Masked writes whose masks share no bit commute (R182). -/
theorem maskedWrite_comm {mask mask' : Byte} (h : mask &&& mask' = 0) (old value value' : Byte) :
    maskedWrite (maskedWrite old mask value) mask' value' = maskedWrite (maskedWrite old mask' value') mask value := by
  apply BitVec.eq_of_getLsbD_eq
  intro b _
  simp only [maskedWrite_getLsbD]
  cases hm : mask.getLsbD b with
  | false => simp
  | true =>
    have hm' : mask'.getLsbD b = false := by simpa [hm] using congrArg (·.getLsbD b) h
    simp [hm']

/-- Settles O50: two WRITEs to one port write it twice, each by its mask. -/
theorem writesAreIdempotentAndCommute : Obligations.WritesAreIdempotentAndCommute := by
  unfold Obligations.WritesAreIdempotentAndCommute
  constructor
  · intro s t u port mask value ht hu
    obtain ⟨-, i, hi, rfl⟩ := exec_write_next ht
    obtain ⟨-, j, hj, rfl⟩ := exec_write_next hu
    obtain rfl := Option.some.inj (hi.symm.trans hj)
    simp only [Ports.get_set_same, Ports.set_set, maskedWrite_maskedWrite_same]
  · intro s t u t' u' port mask value mask' value' hmasks ht hu ht' hu'
    obtain ⟨-, i, hi, rfl⟩ := exec_write_next ht
    obtain ⟨-, j, hj, rfl⟩ := exec_write_next hu
    obtain ⟨-, k, hk, rfl⟩ := exec_write_next ht'
    obtain ⟨-, l, hl, rfl⟩ := exec_write_next hu'
    obtain rfl := Option.some.inj (hi.symm.trans hj)
    obtain rfl := Option.some.inj (hi.symm.trans hk)
    obtain rfl := Option.some.inj (hi.symm.trans hl)
    simp only [Ports.get_set_same, Ports.set_set, maskedWrite_comm hmasks]

/-- WRITE's step on the main port. -/
theorem step_write {s : State} {ts : List Turn} {ws : List CmdWord} {port : BitVec 2} {mask value : Byte} {i : PortIdx}
    (hmain : s.MainTurn ts) (hidle : s.sync = .idle) (hport : s.mainPort = encode (.write port mask value) :: ws)
    (hi : portOfIndex port = some i) :
    step s = .next { s with
      turns := ts, mainPort := ws, ctx := .main
      ports := (s.writePort i mask value).ports, mainResp := s.mainResp ++ [.done] } := by
  have hwf : (Instr.write port mask value).WellFormed := by
    rcases portOfIndex_cases port with ⟨-, hnone⟩ | ⟨h3, -⟩
    · cases hi.symm.trans hnone
    · exact bne_iff_ne.mpr h3
  rw [step_of_mainWord hmain hidle hport, performWord_ok (decodeOfEncodeIsTheOperation _ hwf)]
  exact exec_write_main rfl hi mask value

/-- Settles O51: TICK neither reads nor writes a port, and with no hold nothing of the main port's. -/
theorem writeAndTickCommute : Obligations.WriteAndTickCommute := by
  unfold Obligations.WriteAndTickCommute
  intro s port mask value pins ws ts h3 hidle hport
  obtain ⟨h, -⟩ | ⟨-, i, hi⟩ := portOfIndex_cases port
  · exact absurd h h3
  have hwrite := step_write (s := { s with turns := .main :: Turn.compareMatch pins :: ts }) (.inl rfl) hidle hport hi
  have hthenTick := step_compareMatch (s := { s with
    turns := Turn.compareMatch pins :: ts, mainPort := ws, ctx := .main
    ports := (s.writePort i mask value).ports, mainResp := s.mainResp ++ [.done] }) rfl
  have htick := step_compareMatch (s := { s with turns := Turn.compareMatch pins :: .main :: ts }) rfl
  rw [State.ticked_eq_of_idle (by exact hidle)] at hthenTick htick
  have hthenWrite := step_write (s := { s with
    millis := s.nextMillis, freeIdx := s.nextFreeIdx, latch := latchByte s.cfg pins, pinIn := pins
    irqResp := s.irqResp ++ [.done], turns := .main :: ts, ctx := .main }) (.inl rfl) hidle hport hi
  exact ⟨_, (run_step hwrite).trans (run_one hthenTick), (run_step htick).trans (run_one hthenWrite)⟩

end Sys2Proof.Machine
end


section
/-! Reset and the invariant of R20: what the reset event leaves, what every operation and every step keeps, and why a
program within its contract is never refused (spec/10_state.md, spec/60_exceptions.md). -/

namespace Sys2Proof.Machine

/-! Reset (R39) -/

/-- Settles O13: the reset event's step is `State.applyReset`, written out. -/
theorem resetEventGivesTheResetValues : Obligations.ResetEventGivesTheResetValues := by
  unfold Obligations.ResetEventGivesTheResetValues
  intro s ts hturns
  simp only [step, hturns]
  rfl

/-- Settles O14: the fields of `State.resetOf`, port by port. -/
theorem stateAfterResetIsTheTable : Obligations.StateAfterResetIsTheTable := by
  unfold Obligations.StateAfterResetIsTheTable
  exact ⟨fun c => ⟨rfl, rfl, rfl, rfl, rfl, fun j => by cases j <;> rfl, rfl, rfl, rfl, rfl⟩, rfl⟩

/-! The invariant without the context (R20) -/

/-- `State.Inv` without its clause on the acting context, which an interrupt changes while it acts. -/
structure State.CellsInRange (s : State) : Prop where
  legal : s.cfg.Legal
  counter : s.CounterInRange
  latch : s.LatchWatched
  param : s.ParamInRange
  target : s.TargetInRange

theorem State.Inv.cells {s : State} (h : s.Inv) : s.CellsInRange := by
  obtain ⟨hl, hcounter, hlatch, hparam, htarget, -⟩ := h
  exact ⟨hl, hcounter, hlatch, hparam, htarget⟩

theorem State.CellsInRange.inv {s : State} (h : s.CellsInRange) (hc : s.ctx = .main) : s.Inv :=
  ⟨h.legal, h.counter, h.latch, h.param, h.target, hc⟩

theorem State.targetInRange_of_idle {s : State} (h : s.sync = .idle) : s.TargetInRange := by
  intro t ht
  simp [h, Sync.target] at ht

theorem State.targetInRange_of_waiting {s : State} {x : Half} (h : s.sync = .waiting x) :
    s.TargetInRange ↔ x.toNat < s.cfg.period ∧ x ≠ s.millis := by
  simp [State.TargetInRange, h, Sync.target]

/-- The reset values are in range in every legal build (D12 to D14). -/
theorem State.cellsInRange_resetOf {c : Config} (hl : c.Legal) : (State.resetOf c).CellsInRange where
  legal := hl
  counter := by
    have hperiod := hl.1
    exact (by omega : 0 < c.period)
  latch := BitVec.zero_and
  param := by
    obtain ⟨-, -, htwo, -⟩ := hl
    refine ⟨fun hv => ?_, fun _ => rfl⟩
    obtain ⟨-, -, -, -, -, -, h1, hmax⟩ := htwo hv
    exact ⟨h1, hmax, rfl⟩
  target := State.targetInRange_of_idle rfl

/-- Settles O15: the reset values are in range, and State.reset is the state after reset of a legal build. -/
theorem resetMeetsTheInvariant : Obligations.ResetMeetsTheInvariant := by
  unfold Obligations.ResetMeetsTheInvariant
  have hall : ∀ c : Config, c.Legal → (State.resetOf c).Inv := fun c hl => (State.cellsInRange_resetOf hl).inv rfl
  exact ⟨hall, hall _ (by decide), fun t ht => by cases ht⟩

/-! What each operation keeps (R20) -/

/-- The invariant speaks of these six cells only. -/
theorem State.CellsInRange.of_same {s t : State} (h : s.CellsInRange) (hcfg : t.cfg = s.cfg)
    (hmillis : t.millis = s.millis) (hlatch : t.latch = s.latch) (hparam : t.param = s.param) (hdir : t.dir = s.dir)
    (hsync : t.sync = s.sync) : t.CellsInRange := by
  obtain ⟨hl, hcounter, hwatched, hrange, htarget⟩ := h
  constructor
  · rwa [hcfg]
  · unfold State.CounterInRange; rwa [hcfg, hmillis]
  · unfold State.LatchWatched; rwa [hcfg, hlatch]
  · unfold State.ParamInRange; rwa [hcfg, hparam, hdir]
  · unfold State.TargetInRange; rwa [hcfg, hmillis, hsync]

/-- POLL's actions keep Param in range, and the absent cell at its reset value (R24, R25). -/
theorem State.edgeActions_paramInRange {s : State} (h : s.ParamInRange) (curr prev : Byte) :
    (s.edgeActions curr prev).ParamInRange := by
  obtain ⟨htwo, hswitch⟩ := h
  have hcfg : (s.edgeActions curr prev).cfg = s.cfg := by
    obtain ⟨_, _, _, _, he⟩ := s.edgeActions_frame curr prev
    rw [he]
  unfold State.ParamInRange
  rw [hcfg]
  constructor
  · intro hv
    obtain ⟨h1, hmax, hdir⟩ := htwo hv
    obtain ⟨h1', hmax'⟩ := State.edgeActions_paramBound hv ⟨h1, hmax⟩ curr prev
    exact ⟨h1', hmax', (State.edgeActions_dir_of_twoButton hv curr prev).trans hdir⟩
  · intro hv
    exact (State.edgeActions_param_of_singleSwitch hv curr prev).trans (hswitch hv)

/-- The latch byte has no unwatched bit (R22). -/
theorem latchByte_watched (c : Config) (pins : Byte) : latchByte c pins &&& ~~~watchMask c = 0 := by
  rw [latchByte, BitVec.and_assoc, BitVec.and_not_self]
  exact BitVec.and_zero

/-- TICK keeps every cell in range: a hold whose target the counter reaches ends, any other keeps its target to come. -/
theorem State.CellsInRange.ticked {s : State} (h : s.CellsInRange) (pins : Byte) : (s.ticked pins).CellsInRange where
  legal := h.legal
  counter := State.ticked_counterInRange h.legal h.counter pins
  latch := latchByte_watched s.cfg pins
  param := h.param
  target := by
    cases hs : s.sync with
    | idle => exact State.targetInRange_of_idle (by rw [State.ticked_eq_of_idle hs]; exact hs)
    | waiting x =>
      by_cases hx : (s.ticked pins).millis = x
      · exact State.targetInRange_of_idle (State.ticked_released hs pins hx).1
      · obtain ⟨hlt, -⟩ := (State.targetInRange_of_waiting hs).mp h.target
        exact (State.targetInRange_of_waiting (State.ticked_held hs pins hx).1).mpr ⟨hlt, Ne.symm hx⟩

/-- The operations a legal environment and the program can present keep every cell in range; SET_EVENT alone publishes
an unmasked byte (R123). -/
theorem exec_keeps_cellsInRange {i : Instr} {s t : State} (h : exec i s = .next t)
    (hi : ∀ imm8, i ≠ .setEvent imm8) (hcells : s.CellsInRange) : t.CellsInRange := by
  cases i with
  | now => rw [exec_now_next h]; apply hcells.of_same <;> simp
  | getEvent => rw [exec_getEvent_next h]; apply hcells.of_same <;> simp
  | setEvent imm8 => exact absurd rfl (hi imm8)
  | poll =>
    obtain ⟨-, p, d, r, f, he, rfl⟩ := exec_poll_next h
    have hparam := State.edgeActions_paramInRange hcells.param s.latch s.prev
    rw [he] at hparam
    exact ⟨hcells.legal, hcells.counter, hcells.latch, hparam, hcells.target⟩
  | syncDelay offset =>
    obtain ⟨-, ⟨-, rfl⟩ | ⟨h0, hp, rfl⟩⟩ := exec_syncDelay_next h
    · exact hcells.of_same rfl rfl rfl rfl rfl rfl
    · refine ⟨hcells.legal, hcells.counter, hcells.latch, hcells.param, (State.targetInRange_of_waiting rfl).mpr ⟨?_, ?_⟩⟩
      · rw [waitTarget_toNat hcells.legal]
        exact Nat.mod_lt _ (Nat.zero_lt_of_lt hp)
      · have hpos : 0 < offset.toNat := Nat.pos_of_ne_zero fun h => h0 (BitVec.eq_of_toNat_eq h)
        exact waitTarget_ne hcells.legal hpos hp hcells.counter
  | write port mask value =>
    obtain ⟨-, j, -, rfl⟩ := exec_write_next h
    exact hcells.of_same rfl rfl rfl rfl rfl rfl
  | tick =>
    rw [exec_tick_interrupt (exec_tick_next h).1] at h
    cases h
    exact hcells.ticked s.pinIn

/-! What each step keeps -/

theorem State.MainTurn.turns_eq_tail {s : State} {ts : List Turn} (h : s.MainTurn ts) : ts = s.turns.tail := by
  rcases h with hturns | ⟨hturns, rfl⟩ <;> rw [hturns] <;> rfl

/-- A step consumes the turn it takes, and at most one presented word. -/
theorem step_consumes {s t : State} (h : step s = .next t) : t.turns = s.turns.tail ∧ t.mainPort ⊆ s.mainPort := by
  rcases step_next h with ⟨ts, hmain, -, rfl⟩ | ⟨ts, w, ws, i, hmain, -, hport, -, he⟩ |
    ⟨w, pins, ts, i, u, hturns, -, he, rfl⟩ | ⟨ts, hturns, rfl⟩
  · exact ⟨hmain.turns_eq_tail, List.Subset.refl _⟩
  · obtain ⟨-, -, hts, hws, -⟩ := exec_sameOutside he
    rw [hts, hws, hport]
    exact ⟨hmain.turns_eq_tail, List.subset_cons_self w ws⟩
  · obtain ⟨-, -, hts, hws, -⟩ := exec_sameOutside he
    exact ⟨by rw [hturns]; exact hts, fun w hw => (hws ▸ hw : w ∈ s.mainPort)⟩
  · exact ⟨by rw [hturns]; rfl, List.Subset.refl _⟩

/-- A step in a legal environment keeps every cell in range, and the main context goes on after it. -/
theorem step_keeps_inv {s t : State} (hinv : s.Inv) (henv : s.EnvLegal) (h : step s = .next t) : t.Inv := by
  have hcells := hinv.cells
  rcases step_next h with ⟨ts, -, -, rfl⟩ | ⟨ts, w, ws, i, -, -, -, -, he⟩ |
    ⟨w, pins, ts, i, u, hturns, hd, he, rfl⟩ | ⟨ts, -, rfl⟩
  · exact hinv
  · have hi : ∀ imm8, i ≠ .setEvent imm8 := by
      rintro imm8 rfl
      cases (exec_setEvent_next he).1
    exact (exec_keeps_cellsInRange he hi (hcells.of_same rfl rfl rfl rfl rfl rfl)).inv (exec_sameOutside he).ctx
  · have hw : w = tickWord := eq_of_beq (henv (.irq w pins) (by rw [hturns]; exact List.mem_cons_self))
    have hi : i = .tick := Except.ok.inj ((hw ▸ hd).symm.trans decode_tickWord)
    have hu : u.CellsInRange :=
      exec_keeps_cellsInRange he (by rw [hi]; simp) (hcells.of_same rfl rfl rfl rfl rfl rfl)
    exact State.CellsInRange.inv (hu.of_same rfl rfl rfl rfl rfl rfl) rfl
  · exact ((State.cellsInRange_resetOf hcells.legal).of_same rfl rfl rfl rfl rfl rfl).inv rfl

theorem step_keeps_envLegal {s t : State} (henv : s.EnvLegal) (h : step s = .next t) : t.EnvLegal := by
  intro x hx
  rw [(step_consumes h).1] at hx
  exact henv x (List.mem_of_mem_tail hx)

theorem step_keeps_contract {s t : State} (hcontract : s.Contract) (h : step s = .next t) : t.Contract := by
  intro w hw
  rw [step_cfg h]
  exact hcontract w ((step_consumes h).2 hw)

/-- Settles O16: the invariant step by step, and a turn consumed. -/
theorem everyStepKeepsTheInvariant : Obligations.EveryStepKeepsTheInvariant := by
  unfold Obligations.EveryStepKeepsTheInvariant
  exact fun s t hinv henv h => ⟨step_keeps_inv hinv henv h, step_keeps_envLegal henv h⟩

/-! Progress (R202, R253) -/

/-- An operation of a contract-keeping program completes in the main context. -/
theorem exec_main_completes {i : Instr} {s : State} (hc : s.ctx = .main) (hi : mainContract s.cfg i = true) :
    ∃ t, exec i s = .next t := by
  rcases exec_completesOrRefused i s with hnext | ⟨r, -, hr⟩
  · exact hnext
  · rcases (operationsAreRefusedExactlyWhen i s r).mp hr with ⟨-, mask, value, rfl⟩ |
      ⟨-, -, rfl | ⟨imm8, rfl⟩⟩ | ⟨-, hc', -⟩ | ⟨-, -, offset, -, hp, rfl⟩
    · cases hi
    · cases hi
    · cases hi
    · cases hc.symm.trans hc'
    · exact absurd (of_decide_eq_true hi) (not_lt.mpr hp)

theorem wordContract_iff {c : Config} {w : CmdWord} :
    wordContract c w = true ↔ ∃ i, decode w = .ok i ∧ mainContract c i = true := by
  unfold wordContract
  split
  · next i hd => simp [hd]
  · next e hd => simp [hd]

theorem mainTurn_completes {s : State} (hcontract : s.Contract) : ∃ t, mainTurn s = .next t := by
  unfold mainTurn
  split
  · exact ⟨_, rfl⟩
  · split
    · exact ⟨_, rfl⟩
    · next w ws hport =>
      obtain ⟨i, hd, hi⟩ := wordContract_iff.mp (hcontract w (by rw [hport]; exact List.mem_cons_self))
      rw [performWord_ok hd]
      exact exec_main_completes rfl hi

/-- In a legal environment a step of a contract-keeping program completes. -/
theorem step_completes {s : State} (henv : s.EnvLegal) (hcontract : s.Contract) : ∃ t, step s = .next t := by
  cases hturns : s.turns with
  | nil => rw [step_of_mainTurn (.inr ⟨hturns, rfl⟩)]; exact mainTurn_completes hcontract
  | cons x ts =>
    cases x with
    | main => rw [step_of_mainTurn (.inl hturns)]; exact mainTurn_completes hcontract
    | irq w pins =>
      have hlegal := henv (.irq w pins) (by rw [hturns]; exact List.mem_cons_self)
      rw [Turn.eq_compareMatch_of_legal hlegal] at hturns
      exact ⟨_, step_compareMatch hturns⟩
    | reset => exact ⟨_, resetEventGivesTheResetValues s ts hturns⟩

/-- Settles O17: each step completes and keeps what the next one needs. -/
theorem contractKeepingRunsAreNeverRefused : Obligations.ContractKeepingRunsAreNeverRefused := by
  unfold Obligations.ContractKeepingRunsAreNeverRefused
  intro n s hinv henv hcontract
  induction n generalizing s with
  | zero => exact ⟨s, rfl, hinv, henv, hcontract⟩
  | succ n ih =>
    obtain ⟨u, hu⟩ := step_completes henv hcontract
    obtain ⟨t, hrun, ht⟩ :=
      ih u (step_keeps_inv hinv henv hu) (step_keeps_envLegal henv hu) (step_keeps_contract hcontract hu)
    exact ⟨t, (run_step hu).trans hrun, ht⟩

end Sys2Proof.Machine
end


section
/-! The timer's parameters (R216): giving F_CLK another value commutes with every operation and every step. -/

namespace Sys2Proof.Machine

/-- The state of a build that differs in F_CLK alone. -/
def State.withFClk (f : Nat) (s : State) : State := { s with cfg := { s.cfg with fClk := f } }

@[simp] theorem State.withFClk_latch (f : Nat) (s : State) : (s.withFClk f).latch = s.latch := rfl
@[simp] theorem State.withFClk_prev (f : Nat) (s : State) : (s.withFClk f).prev = s.prev := rfl
@[simp] theorem State.withFClk_param (f : Nat) (s : State) : (s.withFClk f).param = s.param := rfl
@[simp] theorem State.withFClk_bitA (f : Nat) (s : State) : (s.withFClk f).cfg.bitA = s.cfg.bitA := rfl
@[simp] theorem State.withFClk_bitB (f : Nat) (s : State) : (s.withFClk f).cfg.bitB = s.cfg.bitB := rfl

/-- An outcome with its next state, if any, changed by `g`. -/
def mapNext (g : State → State) (o : Host.Outcome State Fault Refusal) : Host.Outcome State Fault Refusal :=
  match o with
  | .next s => .next (g s)
  | .fault r => .fault r
  | .refused r => .refused r

@[simp] theorem mapNext_next (g : State → State) (s : State) : mapNext g (.next s) = .next (g s) := rfl
@[simp] theorem mapNext_refused (g : State → State) (r : Refusal) : mapNext g (.refused r) = .refused r := rfl

theorem State.respond_withFClk (f : Nat) (s : State) (r : Response) :
    (s.withFClk f).respond r = (s.respond r).withFClk f := by
  rcases s.ctx.main_or_interrupt with hc | hc
  · rw [State.respond_main hc, State.respond_main (s := s.withFClk f) hc]; rfl
  · rw [State.respond_interrupt hc, State.respond_interrupt (s := s.withFClk f) hc]; rfl

theorem State.emitDigits_withFClk (f : Nat) (s : State) : (s.withFClk f).emitDigits = s.emitDigits.withFClk f := by
  simp only [State.emitDigits, State.withFClk_param]
  cases encDigits s.param <;> rfl

theorem State.actionA_withFClk (f : Nat) (s : State) : (s.withFClk f).actionA = s.actionA.withFClk f := by
  rw [State.actionA_eq, State.actionA_eq, ← State.emitDigits_withFClk]
  rfl

theorem State.actionB_withFClk (f : Nat) (s : State) : (s.withFClk f).actionB = s.actionB.withFClk f := by
  rw [State.actionB_eq, State.actionB_eq, ← State.emitDigits_withFClk]
  rfl

theorem State.edgeActions_withFClk (f : Nat) (s : State) (curr prev : Byte) :
    (s.withFClk f).edgeActions curr prev = (s.edgeActions curr prev).withFClk f := by
  cases hv : s.cfg.variant with
  | twoButton =>
    rw [State.edgeActions_twoButton hv, State.edgeActions_twoButton (s := s.withFClk f) hv]
    simp only [State.withFClk_bitA, State.withFClk_bitB, State.actionA_withFClk, ← apply_ite (State.withFClk f),
      State.actionB_withFClk]
  | singleSwitch =>
    rw [State.edgeActions_singleSwitch hv, State.edgeActions_singleSwitch (s := s.withFClk f) hv]
    exact (apply_ite (State.withFClk f) _ s.actionS s).symm

/-- F_CLK enters no operation. -/
theorem exec_withFClk (f : Nat) (i : Instr) (s : State) :
    exec i (s.withFClk f) = mapNext (State.withFClk f) (exec i s) := by
  cases i with
  | now => exact congrArg _ (s.respond_withFClk f (.done16 s.millis))
  | getEvent => exact congrArg _ (s.respond_withFClk f (.done8 s.latch))
  | setEvent imm8 =>
    rcases s.ctx.main_or_interrupt with hc | hc
    · rw [exec_setEvent_refused_iff.mpr ⟨rfl, hc⟩]
      exact exec_setEvent_refused_iff.mpr ⟨rfl, hc⟩
    · rw [exec_setEvent_interrupt hc]
      exact exec_setEvent_interrupt (s := s.withFClk f) hc imm8
  | poll =>
    rcases s.ctx.main_or_interrupt with hc | hc
    · rw [exec_poll_main hc, exec_poll_main (s := s.withFClk f) hc, State.withFClk_latch, State.withFClk_prev,
        State.edgeActions_withFClk]
      rfl
    · rw [exec_poll_refused_iff.mpr ⟨rfl, hc⟩]
      exact exec_poll_refused_iff.mpr ⟨rfl, hc⟩
  | syncDelay offset =>
    rcases s.ctx.main_or_interrupt with hc | hc
    · have hc' : (s.withFClk f).ctx = .main := hc
      simp only [exec, execSyncDelay, hc, hc', apply_ite (mapNext (State.withFClk f)), mapNext_next,
        mapNext_refused, ← State.respond_withFClk]
      rfl
    · rw [exec_syncDelay_refused_iff.mpr (.inl ⟨rfl, hc⟩)]
      exact exec_syncDelay_refused_iff.mpr (.inl ⟨rfl, hc⟩)
  | write port mask value =>
    rcases portOfIndex_cases port with ⟨rfl, -⟩ | ⟨h3, j, hj⟩
    · rfl
    · rcases s.ctx.main_or_interrupt with hc | hc
      · rw [exec_write_main hc hj]
        exact exec_write_main (s := s.withFClk f) hc hj mask value
      · rw [exec_write_refused_iff.mpr (.inr ⟨rfl, hc, h3⟩)]
        exact exec_write_refused_iff.mpr (.inr ⟨rfl, hc, h3⟩)
  | tick =>
    rcases s.ctx.main_or_interrupt with hc | hc
    · rw [exec_tick_refused_iff.mpr ⟨rfl, hc⟩]
      exact exec_tick_refused_iff.mpr ⟨rfl, hc⟩
    · rw [exec_tick_interrupt hc]
      exact exec_tick_interrupt (s := s.withFClk f) hc

theorem performWord_withFClk (f : Nat) (w : CmdWord) (s : State) :
    performWord w (s.withFClk f) = mapNext (State.withFClk f) (performWord w s) := by
  cases hd : decode w with
  | ok i => rw [performWord_ok hd, performWord_ok hd, exec_withFClk]
  | error e =>
    cases e with
    | reservedEncoding => rw [performWord_reserved hd, performWord_reserved hd]; rfl
    | noSuchPort => rw [performWord_noSuchPort hd, performWord_noSuchPort hd]; rfl

theorem mainTurn_withFClk (f : Nat) (s : State) :
    mainTurn (s.withFClk f) = mapNext (State.withFClk f) (mainTurn s) := by
  cases hs : s.sync with
  | waiting x =>
    rw [mainTurn_of_waiting hs]
    exact mainTurn_of_waiting (s := s.withFClk f) hs
  | idle =>
    have hs' : (s.withFClk f).sync = .idle := hs
    cases hp : s.mainPort with
    | nil =>
      have hp' : (s.withFClk f).mainPort = [] := hp
      simp only [mainTurn, hs, hs', hp, hp', mapNext_next]
    | cons w ws =>
      have hp' : (s.withFClk f).mainPort = w :: ws := hp
      simp only [mainTurn, hs, hs', hp, hp']
      exact performWord_withFClk f w ((s.setMainPort ws).setCtx .main)

theorem interruptTurn_eq_mapNext (w : CmdWord) (pins : Byte) (s : State) :
    interruptTurn w pins s = mapNext State.returnFromInterrupt (performWord w (s.takeInterrupt pins)) := by
  unfold interruptTurn
  cases performWord w (s.takeInterrupt pins) <;> rfl

theorem interruptTurn_withFClk (f : Nat) (w : CmdWord) (pins : Byte) (s : State) :
    interruptTurn w pins (s.withFClk f) = mapNext (State.withFClk f) (interruptTurn w pins s) := by
  have hw : performWord w ((s.withFClk f).takeInterrupt pins) = _ := performWord_withFClk f w (s.takeInterrupt pins)
  rw [interruptTurn_eq_mapNext, interruptTurn_eq_mapNext, hw]
  cases performWord w (s.takeInterrupt pins) <;> rfl

/-- F_CLK enters no step. -/
theorem step_withFClk (f : Nat) (s : State) : step (s.withFClk f) = mapNext (State.withFClk f) (step s) := by
  have hmain : ∀ ts, s.MainTurn ts → step (s.withFClk f) = mapNext (State.withFClk f) (step s) := by
    intro ts h
    rw [step_of_mainTurn h, step_of_mainTurn (s := s.withFClk f) h]
    exact mainTurn_withFClk f { s with turns := ts }
  cases hturns : s.turns with
  | nil => exact hmain [] (.inr ⟨hturns, rfl⟩)
  | cons x ts =>
    have hturns' : (s.withFClk f).turns = x :: ts := hturns
    cases x with
    | main => exact hmain ts (.inl hturns)
    | irq w pins =>
      simp only [step, hturns, hturns']
      exact interruptTurn_withFClk f w pins (s.setTurns ts)
    | reset =>
      simp only [step, hturns, hturns', mapNext_next]
      rfl

/-- Settles O19: a next state differs in F_CLK alone, and a refusal not at all. -/
theorem timerParametersAreInert : Obligations.TimerParametersAreInert := by
  unfold Obligations.TimerParametersAreInert
  intro s f
  exact ⟨fun t h => (step_withFClk f s).trans (by rw [h]; rfl), fun r h => (step_withFClk f s).trans (by rw [h]; rfl)⟩

end Sys2Proof.Machine
end
